-- ==== Sys2Proof/Word.lean ====
section
/-! DEFINITION. The two primitive types of the core (R20, R21) and their wrapping increment and decrement. -/

namespace Sys2Proof

/-- An unsigned 8-bit value (R20). -/
abbrev Octet := BitVec 8

/-- An unsigned 16-bit value (R21): register pairs, PC, SP and addresses. -/
abbrev Word := BitVec 16

/-- `inc` of R20 and R21, modulo 2^w. -/
def incWrap {w : Nat} (x : BitVec w) : BitVec w := x + 1

/-- `dec` of R20 and R21, modulo 2^w. -/
def decWrap {w : Nat} (x : BitVec w) : BitVec w := x - 1

end Sys2Proof
end

