-- ==== Sys2Proof/Machine/Bits.lean ====
section
/-! DEFINITION. Halves of a Word, rebuilding a Word, sign extension (R6, R21, R95). -/

namespace Sys2Proof

/-- `hi(w) = w[15:8]` (R6). -/
def hi (w : Word) : Octet := w.extractLsb' 8 8

/-- `lo(w) = w[7:0]` (R6). -/
def lo (w : Word) : Octet := w.extractLsb' 0 8

/-- The Word `h * 256 + l` with high octet h and low octet l (R6). -/
def mkWord (h l : Octet) : Word := h ++ l

/-- `withHi(w, h)` (R21): the high half replaced. -/
def withHi (w : Word) (h : Octet) : Word := mkWord h (lo w)

/-- `withLo(w, l)` (R21): the low half replaced. -/
def withLo (w : Word) (l : Octet) : Word := mkWord (hi w) l

/-- `sext_16(e)` (R6): the displacement octet read as a two's-complement number. -/
def sext16 (e : Octet) : Word := e.signExtend 16

/-- `b` as an octet, 0 or 1, for the rotates (R214 to R217) and affections. -/
def bitOf (b : Bool) : Octet := if b then 1 else 0

end Sys2Proof
end

