-- ==== Sys2Proof/Syntax.lean ====
section
/-! DEFINITION. The instructions: one constructor for each mnemonic of spec/opcode_table.json (R97, R106). An immediate is an
argument: `n` (R94), `e` (R95), `nn` (R96). `m` before an operand name stands for the parentheses of the mnemonic, "the memory at". The
seven Illegal rows are one constructor with the offending octet (R107, R283; log entry 10). Constructors with an argument stand first
(a limit of the compiler on constructor tags), each group in the order of the first byte. -/

namespace Sys2Proof

inductive Instr where
  /-- LD BC,nn (R171). -/
  | ld_BC_nn (nn : Word)
  /-- LD B,n (R161). -/
  | ld_B_n (n : Octet)
  /-- LD C,n (R161). -/
  | ld_C_n (n : Octet)
  /-- DJNZ e (R259). -/
  | djnz_e (e : Octet)
  /-- LD DE,nn (R171). -/
  | ld_DE_nn (nn : Word)
  /-- LD D,n (R161). -/
  | ld_D_n (n : Octet)
  /-- JR e (R257). -/
  | jr_e (e : Octet)
  /-- LD E,n (R161). -/
  | ld_E_n (n : Octet)
  /-- JR NZ,e (R258). -/
  | jr_NZ_e (e : Octet)
  /-- LD HL,nn (R171). -/
  | ld_HL_nn (nn : Word)
  /-- LD (nn),HL (R173). -/
  | ld_mNN_HL (nn : Word)
  /-- LD H,n (R161). -/
  | ld_H_n (n : Octet)
  /-- JR Z,e (R258). -/
  | jr_Z_e (e : Octet)
  /-- LD HL,(nn) (R172). -/
  | ld_HL_mNN (nn : Word)
  /-- LD L,n (R161). -/
  | ld_L_n (n : Octet)
  /-- JR NC,e (R258). -/
  | jr_NC_e (e : Octet)
  /-- LD SP,nn (R171). -/
  | ld_SP_nn (nn : Word)
  /-- LD (nn),A (R170). -/
  | ld_mNN_A (nn : Word)
  /-- LD (HL),n (R164). -/
  | ld_mHL_n (n : Octet)
  /-- JR C,e (R258). -/
  | jr_C_e (e : Octet)
  /-- LD A,(nn) (R167). -/
  | ld_A_mNN (nn : Word)
  /-- LD A,n (R161). -/
  | ld_A_n (n : Octet)
  /-- The Illegal sentinel (R283). -/
  | illegal (op : Octet)
  /-- JP NZ,nn (R255). -/
  | jp_NZ_nn (nn : Word)
  /-- JP nn (R254). -/
  | jp_nn (nn : Word)
  /-- CALL NZ,nn (R261). -/
  | call_NZ_nn (nn : Word)
  /-- ADD A,n (R200). -/
  | add_A_n (n : Octet)
  /-- JP Z,nn (R255). -/
  | jp_Z_nn (nn : Word)
  /-- CALL Z,nn (R261). -/
  | call_Z_nn (nn : Word)
  /-- CALL nn (R260). -/
  | call_nn (nn : Word)
  /-- ADC A,n (R201). -/
  | adc_A_n (n : Octet)
  /-- JP NC,nn (R255). -/
  | jp_NC_nn (nn : Word)
  /-- CALL NC,nn (R261). -/
  | call_NC_nn (nn : Word)
  /-- SUB n (R202). -/
  | sub_n (n : Octet)
  /-- JP C,nn (R255). -/
  | jp_C_nn (nn : Word)
  /-- CALL C,nn (R261). -/
  | call_C_nn (nn : Word)
  /-- SBC A,n (R203). -/
  | sbc_A_n (n : Octet)
  /-- JP PO,nn (R255). -/
  | jp_PO_nn (nn : Word)
  /-- CALL PO,nn (R261). -/
  | call_PO_nn (nn : Word)
  /-- AND n (R204). -/
  | and_n (n : Octet)
  /-- JP PE,nn (R255). -/
  | jp_PE_nn (nn : Word)
  /-- CALL PE,nn (R261). -/
  | call_PE_nn (nn : Word)
  /-- XOR n (R205). -/
  | xor_n (n : Octet)
  /-- JP P,nn (R255). -/
  | jp_P_nn (nn : Word)
  /-- CALL P,nn (R261). -/
  | call_P_nn (nn : Word)
  /-- OR n (R206). -/
  | or_n (n : Octet)
  /-- JP M,nn (R255). -/
  | jp_M_nn (nn : Word)
  /-- CALL M,nn (R261). -/
  | call_M_nn (nn : Word)
  /-- CP n (R207). -/
  | cp_n (n : Octet)
  /-- NOP (R280). -/
  | nop
  /-- LD (BC),A (R168). -/
  | ld_mBC_A
  /-- INC BC (R241). -/
  | inc_BC
  /-- INC B (R210). -/
  | inc_B
  /-- DEC B (R212). -/
  | dec_B
  /-- RLCA (R214). -/
  | rlca
  /-- EX AF,AF' (R178). -/
  | ex_AF_AFalt
  /-- ADD HL,BC (R240). -/
  | add_HL_BC
  /-- LD A,(BC) (R165). -/
  | ld_A_mBC
  /-- DEC BC (R242). -/
  | dec_BC
  /-- INC C (R210). -/
  | inc_C
  /-- DEC C (R212). -/
  | dec_C
  /-- RRCA (R215). -/
  | rrca
  /-- LD (DE),A (R169). -/
  | ld_mDE_A
  /-- INC DE (R241). -/
  | inc_DE
  /-- INC D (R210). -/
  | inc_D
  /-- DEC D (R212). -/
  | dec_D
  /-- RLA (R216). -/
  | rla
  /-- ADD HL,DE (R240). -/
  | add_HL_DE
  /-- LD A,(DE) (R166). -/
  | ld_A_mDE
  /-- DEC DE (R242). -/
  | dec_DE
  /-- INC E (R210). -/
  | inc_E
  /-- DEC E (R212). -/
  | dec_E
  /-- RRA (R217). -/
  | rra
  /-- INC HL (R241). -/
  | inc_HL
  /-- INC H (R210). -/
  | inc_H
  /-- DEC H (R212). -/
  | dec_H
  /-- DAA (R218). -/
  | daa
  /-- ADD HL,HL (R240). -/
  | add_HL_HL
  /-- DEC HL (R242). -/
  | dec_HL
  /-- INC L (R210). -/
  | inc_L
  /-- DEC L (R212). -/
  | dec_L
  /-- CPL (R219). -/
  | cpl
  /-- INC SP (R241). -/
  | inc_SP
  /-- INC (HL) (R211). -/
  | inc_mHL
  /-- DEC (HL) (R213). -/
  | dec_mHL
  /-- SCF (R220). -/
  | scf
  /-- ADD HL,SP (R240). -/
  | add_HL_SP
  /-- DEC SP (R242). -/
  | dec_SP
  /-- INC A (R210). -/
  | inc_A
  /-- DEC A (R212). -/
  | dec_A
  /-- CCF (R221). -/
  | ccf
  /-- LD B,B (R160). -/
  | ld_B_B
  /-- LD B,C (R160). -/
  | ld_B_C
  /-- LD B,D (R160). -/
  | ld_B_D
  /-- LD B,E (R160). -/
  | ld_B_E
  /-- LD B,H (R160). -/
  | ld_B_H
  /-- LD B,L (R160). -/
  | ld_B_L
  /-- LD B,(HL) (R162). -/
  | ld_B_mHL
  /-- LD B,A (R160). -/
  | ld_B_A
  /-- LD C,B (R160). -/
  | ld_C_B
  /-- LD C,C (R160). -/
  | ld_C_C
  /-- LD C,D (R160). -/
  | ld_C_D
  /-- LD C,E (R160). -/
  | ld_C_E
  /-- LD C,H (R160). -/
  | ld_C_H
  /-- LD C,L (R160). -/
  | ld_C_L
  /-- LD C,(HL) (R162). -/
  | ld_C_mHL
  /-- LD C,A (R160). -/
  | ld_C_A
  /-- LD D,B (R160). -/
  | ld_D_B
  /-- LD D,C (R160). -/
  | ld_D_C
  /-- LD D,D (R160). -/
  | ld_D_D
  /-- LD D,E (R160). -/
  | ld_D_E
  /-- LD D,H (R160). -/
  | ld_D_H
  /-- LD D,L (R160). -/
  | ld_D_L
  /-- LD D,(HL) (R162). -/
  | ld_D_mHL
  /-- LD D,A (R160). -/
  | ld_D_A
  /-- LD E,B (R160). -/
  | ld_E_B
  /-- LD E,C (R160). -/
  | ld_E_C
  /-- LD E,D (R160). -/
  | ld_E_D
  /-- LD E,E (R160). -/
  | ld_E_E
  /-- LD E,H (R160). -/
  | ld_E_H
  /-- LD E,L (R160). -/
  | ld_E_L
  /-- LD E,(HL) (R162). -/
  | ld_E_mHL
  /-- LD E,A (R160). -/
  | ld_E_A
  /-- LD H,B (R160). -/
  | ld_H_B
  /-- LD H,C (R160). -/
  | ld_H_C
  /-- LD H,D (R160). -/
  | ld_H_D
  /-- LD H,E (R160). -/
  | ld_H_E
  /-- LD H,H (R160). -/
  | ld_H_H
  /-- LD H,L (R160). -/
  | ld_H_L
  /-- LD H,(HL) (R162). -/
  | ld_H_mHL
  /-- LD H,A (R160). -/
  | ld_H_A
  /-- LD L,B (R160). -/
  | ld_L_B
  /-- LD L,C (R160). -/
  | ld_L_C
  /-- LD L,D (R160). -/
  | ld_L_D
  /-- LD L,E (R160). -/
  | ld_L_E
  /-- LD L,H (R160). -/
  | ld_L_H
  /-- LD L,L (R160). -/
  | ld_L_L
  /-- LD L,(HL) (R162). -/
  | ld_L_mHL
  /-- LD L,A (R160). -/
  | ld_L_A
  /-- LD (HL),B (R163). -/
  | ld_mHL_B
  /-- LD (HL),C (R163). -/
  | ld_mHL_C
  /-- LD (HL),D (R163). -/
  | ld_mHL_D
  /-- LD (HL),E (R163). -/
  | ld_mHL_E
  /-- LD (HL),H (R163). -/
  | ld_mHL_H
  /-- LD (HL),L (R163). -/
  | ld_mHL_L
  /-- LD (HL),A (R163). -/
  | ld_mHL_A
  /-- LD A,B (R160). -/
  | ld_A_B
  /-- LD A,C (R160). -/
  | ld_A_C
  /-- LD A,D (R160). -/
  | ld_A_D
  /-- LD A,E (R160). -/
  | ld_A_E
  /-- LD A,H (R160). -/
  | ld_A_H
  /-- LD A,L (R160). -/
  | ld_A_L
  /-- LD A,(HL) (R162). -/
  | ld_A_mHL
  /-- LD A,A (R160). -/
  | ld_A_A
  /-- ADD A,B (R200). -/
  | add_A_B
  /-- ADD A,C (R200). -/
  | add_A_C
  /-- ADD A,D (R200). -/
  | add_A_D
  /-- ADD A,E (R200). -/
  | add_A_E
  /-- ADD A,H (R200). -/
  | add_A_H
  /-- ADD A,L (R200). -/
  | add_A_L
  /-- ADD A,(HL) (R200). -/
  | add_A_mHL
  /-- ADD A,A (R200). -/
  | add_A_A
  /-- ADC A,B (R201). -/
  | adc_A_B
  /-- ADC A,C (R201). -/
  | adc_A_C
  /-- ADC A,D (R201). -/
  | adc_A_D
  /-- ADC A,E (R201). -/
  | adc_A_E
  /-- ADC A,H (R201). -/
  | adc_A_H
  /-- ADC A,L (R201). -/
  | adc_A_L
  /-- ADC A,(HL) (R201). -/
  | adc_A_mHL
  /-- ADC A,A (R201). -/
  | adc_A_A
  /-- SUB B (R202). -/
  | sub_B
  /-- SUB C (R202). -/
  | sub_C
  /-- SUB D (R202). -/
  | sub_D
  /-- SUB E (R202). -/
  | sub_E
  /-- SUB H (R202). -/
  | sub_H
  /-- SUB L (R202). -/
  | sub_L
  /-- SUB (HL) (R202). -/
  | sub_mHL
  /-- SUB A (R202). -/
  | sub_A
  /-- SBC A,B (R203). -/
  | sbc_A_B
  /-- SBC A,C (R203). -/
  | sbc_A_C
  /-- SBC A,D (R203). -/
  | sbc_A_D
  /-- SBC A,E (R203). -/
  | sbc_A_E
  /-- SBC A,H (R203). -/
  | sbc_A_H
  /-- SBC A,L (R203). -/
  | sbc_A_L
  /-- SBC A,(HL) (R203). -/
  | sbc_A_mHL
  /-- SBC A,A (R203). -/
  | sbc_A_A
  /-- AND B (R204). -/
  | and_B
  /-- AND C (R204). -/
  | and_C
  /-- AND D (R204). -/
  | and_D
  /-- AND E (R204). -/
  | and_E
  /-- AND H (R204). -/
  | and_H
  /-- AND L (R204). -/
  | and_L
  /-- AND (HL) (R204). -/
  | and_mHL
  /-- AND A (R204). -/
  | and_A
  /-- XOR B (R205). -/
  | xor_B
  /-- XOR C (R205). -/
  | xor_C
  /-- XOR D (R205). -/
  | xor_D
  /-- XOR E (R205). -/
  | xor_E
  /-- XOR H (R205). -/
  | xor_H
  /-- XOR L (R205). -/
  | xor_L
  /-- XOR (HL) (R205). -/
  | xor_mHL
  /-- XOR A (R205). -/
  | xor_A
  /-- OR B (R206). -/
  | or_B
  /-- OR C (R206). -/
  | or_C
  /-- OR D (R206). -/
  | or_D
  /-- OR E (R206). -/
  | or_E
  /-- OR H (R206). -/
  | or_H
  /-- OR L (R206). -/
  | or_L
  /-- OR (HL) (R206). -/
  | or_mHL
  /-- OR A (R206). -/
  | or_A
  /-- CP B (R207). -/
  | cp_B
  /-- CP C (R207). -/
  | cp_C
  /-- CP D (R207). -/
  | cp_D
  /-- CP E (R207). -/
  | cp_E
  /-- CP H (R207). -/
  | cp_H
  /-- CP L (R207). -/
  | cp_L
  /-- CP (HL) (R207). -/
  | cp_mHL
  /-- CP A (R207). -/
  | cp_A
  /-- RET NZ (R263). -/
  | ret_NZ
  /-- POP BC (R176). -/
  | pop_BC
  /-- PUSH BC (R175). -/
  | push_BC
  /-- RST 00H (R264). -/
  | rst_00H
  /-- RET Z (R263). -/
  | ret_Z
  /-- RET (R262). -/
  | ret
  /-- RST 08H (R264). -/
  | rst_08H
  /-- RET NC (R263). -/
  | ret_NC
  /-- POP DE (R176). -/
  | pop_DE
  /-- PUSH DE (R175). -/
  | push_DE
  /-- RST 10H (R264). -/
  | rst_10H
  /-- RET C (R263). -/
  | ret_C
  /-- EXX (R179). -/
  | exx
  /-- RST 18H (R264). -/
  | rst_18H
  /-- RET PO (R263). -/
  | ret_PO
  /-- POP HL (R176). -/
  | pop_HL
  /-- EX (SP),HL (R180). -/
  | ex_mSP_HL
  /-- PUSH HL (R175). -/
  | push_HL
  /-- RST 20H (R264). -/
  | rst_20H
  /-- RET PE (R263). -/
  | ret_PE
  /-- JP (HL) (R256). -/
  | jp_HL
  /-- EX DE,HL (R177). -/
  | ex_DE_HL
  /-- RST 28H (R264). -/
  | rst_28H
  /-- RET P (R263). -/
  | ret_P
  /-- POP AF (R176). -/
  | pop_AF
  /-- DI (R282). -/
  | di
  /-- PUSH AF (R175). -/
  | push_AF
  /-- RST 30H (R264). -/
  | rst_30H
  /-- RET M (R263). -/
  | ret_M
  /-- LD SP,HL (R174). -/
  | ld_SP_HL
  /-- EI (R281). -/
  | ei
  /-- RST 38H (R264). -/
  | rst_38H
  deriving DecidableEq, Repr

end Sys2Proof
end

