-- ==== Sys2Proof/WellFormed.lean ====
section
/-! DEFINITION. Well-formedness of an instruction as syntax. The immediates have the widths of R94 to R96 by their types; the one check
left is that the Illegal sentinel carries an octet that has no instruction (R107). -/

namespace Sys2Proof

/-- The seven first bytes without an instruction (R107). -/
def illegalFirstBytes : List Octet := [0x76, 0xCB, 0xD3, 0xDB, 0xDD, 0xED, 0xFD]

/-- The check on the Illegal sentinel (R107). -/
def illegalByteOk (op : Octet) : Bool := illegalFirstBytes.contains op

/-- Every instruction but a sentinel with an assigned octet is well formed. -/
def wellFormed : Instr → Bool
  | .illegal op => illegalByteOk op
  | _ => true

end Sys2Proof
end

