-- ==== Sys2Proof/Decode.lean ====
section
/-! DEFINITION. The dispatch table (R97, R106), the decoder over bytes (total; it rejects by name a list that ends too early), the
decoder of the opcode table's words, and the encoder. -/

namespace Sys2Proof

/-- An entry of the dispatch table (R97, R112): the instruction with its operands bound, by format (R91). -/
inductive Variant where
  /-- Format OP, one byte. -/
  | op (i : Instr)
  /-- Format OP_n, two bytes: an 8-bit immediate (R94). -/
  | opN (f : Octet → Instr)
  /-- Format OP_e, two bytes: a displacement (R95). -/
  | opE (f : Octet → Instr)
  /-- Format OP_nn, three bytes: a 16-bit immediate, low byte first (R96). -/
  | opNN (f : Word → Instr)

/-- The encoded length of a variant (R91, R109). -/
def variantLength : Variant → Nat
  | .op _ => 1
  | .opN _ => 2
  | .opE _ => 2
  | .opNN _ => 3

/-- First bytes 0x00 to 0x0F (the grid of R106). -/
def dispatchRow0 : List Variant :=
  [
    .op .nop, .opNN .ld_BC_nn, .op .ld_mBC_A, .op .inc_BC,
    .op .inc_B, .op .dec_B, .opN .ld_B_n, .op .rlca,
    .op .ex_AF_AFalt, .op .add_HL_BC, .op .ld_A_mBC, .op .dec_BC,
    .op .inc_C, .op .dec_C, .opN .ld_C_n, .op .rrca ]

/-- First bytes 0x10 to 0x1F (the grid of R106). -/
def dispatchRow1 : List Variant :=
  [
    .opE .djnz_e, .opNN .ld_DE_nn, .op .ld_mDE_A, .op .inc_DE,
    .op .inc_D, .op .dec_D, .opN .ld_D_n, .op .rla,
    .opE .jr_e, .op .add_HL_DE, .op .ld_A_mDE, .op .dec_DE,
    .op .inc_E, .op .dec_E, .opN .ld_E_n, .op .rra ]

/-- First bytes 0x20 to 0x2F (the grid of R106). -/
def dispatchRow2 : List Variant :=
  [
    .opE .jr_NZ_e, .opNN .ld_HL_nn, .opNN .ld_mNN_HL, .op .inc_HL,
    .op .inc_H, .op .dec_H, .opN .ld_H_n, .op .daa,
    .opE .jr_Z_e, .op .add_HL_HL, .opNN .ld_HL_mNN, .op .dec_HL,
    .op .inc_L, .op .dec_L, .opN .ld_L_n, .op .cpl ]

/-- First bytes 0x30 to 0x3F (the grid of R106). -/
def dispatchRow3 : List Variant :=
  [
    .opE .jr_NC_e, .opNN .ld_SP_nn, .opNN .ld_mNN_A, .op .inc_SP,
    .op .inc_mHL, .op .dec_mHL, .opN .ld_mHL_n, .op .scf,
    .opE .jr_C_e, .op .add_HL_SP, .opNN .ld_A_mNN, .op .dec_SP,
    .op .inc_A, .op .dec_A, .opN .ld_A_n, .op .ccf ]

/-- First bytes 0x40 to 0x4F (the grid of R106). -/
def dispatchRow4 : List Variant :=
  [
    .op .ld_B_B, .op .ld_B_C, .op .ld_B_D, .op .ld_B_E,
    .op .ld_B_H, .op .ld_B_L, .op .ld_B_mHL, .op .ld_B_A,
    .op .ld_C_B, .op .ld_C_C, .op .ld_C_D, .op .ld_C_E,
    .op .ld_C_H, .op .ld_C_L, .op .ld_C_mHL, .op .ld_C_A ]

/-- First bytes 0x50 to 0x5F (the grid of R106). -/
def dispatchRow5 : List Variant :=
  [
    .op .ld_D_B, .op .ld_D_C, .op .ld_D_D, .op .ld_D_E,
    .op .ld_D_H, .op .ld_D_L, .op .ld_D_mHL, .op .ld_D_A,
    .op .ld_E_B, .op .ld_E_C, .op .ld_E_D, .op .ld_E_E,
    .op .ld_E_H, .op .ld_E_L, .op .ld_E_mHL, .op .ld_E_A ]

/-- First bytes 0x60 to 0x6F (the grid of R106). -/
def dispatchRow6 : List Variant :=
  [
    .op .ld_H_B, .op .ld_H_C, .op .ld_H_D, .op .ld_H_E,
    .op .ld_H_H, .op .ld_H_L, .op .ld_H_mHL, .op .ld_H_A,
    .op .ld_L_B, .op .ld_L_C, .op .ld_L_D, .op .ld_L_E,
    .op .ld_L_H, .op .ld_L_L, .op .ld_L_mHL, .op .ld_L_A ]

/-- First bytes 0x70 to 0x7F (the grid of R106). -/
def dispatchRow7 : List Variant :=
  [
    .op .ld_mHL_B, .op .ld_mHL_C, .op .ld_mHL_D, .op .ld_mHL_E,
    .op .ld_mHL_H, .op .ld_mHL_L, .op (.illegal 0x76), .op .ld_mHL_A,
    .op .ld_A_B, .op .ld_A_C, .op .ld_A_D, .op .ld_A_E,
    .op .ld_A_H, .op .ld_A_L, .op .ld_A_mHL, .op .ld_A_A ]

/-- First bytes 0x80 to 0x8F (the grid of R106). -/
def dispatchRow8 : List Variant :=
  [
    .op .add_A_B, .op .add_A_C, .op .add_A_D, .op .add_A_E,
    .op .add_A_H, .op .add_A_L, .op .add_A_mHL, .op .add_A_A,
    .op .adc_A_B, .op .adc_A_C, .op .adc_A_D, .op .adc_A_E,
    .op .adc_A_H, .op .adc_A_L, .op .adc_A_mHL, .op .adc_A_A ]

/-- First bytes 0x90 to 0x9F (the grid of R106). -/
def dispatchRow9 : List Variant :=
  [
    .op .sub_B, .op .sub_C, .op .sub_D, .op .sub_E,
    .op .sub_H, .op .sub_L, .op .sub_mHL, .op .sub_A,
    .op .sbc_A_B, .op .sbc_A_C, .op .sbc_A_D, .op .sbc_A_E,
    .op .sbc_A_H, .op .sbc_A_L, .op .sbc_A_mHL, .op .sbc_A_A ]

/-- First bytes 0xA0 to 0xAF (the grid of R106). -/
def dispatchRowA : List Variant :=
  [
    .op .and_B, .op .and_C, .op .and_D, .op .and_E,
    .op .and_H, .op .and_L, .op .and_mHL, .op .and_A,
    .op .xor_B, .op .xor_C, .op .xor_D, .op .xor_E,
    .op .xor_H, .op .xor_L, .op .xor_mHL, .op .xor_A ]

/-- First bytes 0xB0 to 0xBF (the grid of R106). -/
def dispatchRowB : List Variant :=
  [
    .op .or_B, .op .or_C, .op .or_D, .op .or_E,
    .op .or_H, .op .or_L, .op .or_mHL, .op .or_A,
    .op .cp_B, .op .cp_C, .op .cp_D, .op .cp_E,
    .op .cp_H, .op .cp_L, .op .cp_mHL, .op .cp_A ]

/-- First bytes 0xC0 to 0xCF (the grid of R106). -/
def dispatchRowC : List Variant :=
  [
    .op .ret_NZ, .op .pop_BC, .opNN .jp_NZ_nn, .opNN .jp_nn,
    .opNN .call_NZ_nn, .op .push_BC, .opN .add_A_n, .op .rst_00H,
    .op .ret_Z, .op .ret, .opNN .jp_Z_nn, .op (.illegal 0xCB),
    .opNN .call_Z_nn, .opNN .call_nn, .opN .adc_A_n, .op .rst_08H ]

/-- First bytes 0xD0 to 0xDF (the grid of R106). -/
def dispatchRowD : List Variant :=
  [
    .op .ret_NC, .op .pop_DE, .opNN .jp_NC_nn, .op (.illegal 0xD3),
    .opNN .call_NC_nn, .op .push_DE, .opN .sub_n, .op .rst_10H,
    .op .ret_C, .op .exx, .opNN .jp_C_nn, .op (.illegal 0xDB),
    .opNN .call_C_nn, .op (.illegal 0xDD), .opN .sbc_A_n, .op .rst_18H ]

/-- First bytes 0xE0 to 0xEF (the grid of R106). -/
def dispatchRowE : List Variant :=
  [
    .op .ret_PO, .op .pop_HL, .opNN .jp_PO_nn, .op .ex_mSP_HL,
    .opNN .call_PO_nn, .op .push_HL, .opN .and_n, .op .rst_20H,
    .op .ret_PE, .op .jp_HL, .opNN .jp_PE_nn, .op .ex_DE_HL,
    .opNN .call_PE_nn, .op (.illegal 0xED), .opN .xor_n, .op .rst_28H ]

/-- First bytes 0xF0 to 0xFF (the grid of R106). -/
def dispatchRowF : List Variant :=
  [
    .op .ret_P, .op .pop_AF, .opNN .jp_P_nn, .op .di,
    .opNN .call_P_nn, .op .push_AF, .opN .or_n, .op .rst_30H,
    .op .ret_M, .op .ld_SP_HL, .opNN .jp_M_nn, .op .ei,
    .opNN .call_M_nn, .op (.illegal 0xFD), .opN .cp_n, .op .rst_38H ]

/-- The table, row by high nibble. -/
def dispatchRows : List (List Variant) :=
  [dispatchRow0, dispatchRow1, dispatchRow2, dispatchRow3, dispatchRow4, dispatchRow5, dispatchRow6, dispatchRow7] ++
  [dispatchRow8, dispatchRow9, dispatchRowA, dispatchRowB, dispatchRowC, dispatchRowD, dispatchRowE, dispatchRowF]

/-- `DISPATCH[op]` (R93, R97), total on every octet. -/
def dispatch (op : Octet) : Variant :=
  (dispatchRows.getD (op.toNat / 16) []).getD (op.toNat % 16) (.op (.illegal op))

/-- Why a list of bytes is no instruction. -/
inductive DecodeError where
  /-- There is no first byte. -/
  | noOpcode
  /-- The bytes end before the operand bytes that the first byte `op` asks for. -/
  | operandMissing (op : Octet)
  deriving DecidableEq, Repr

/-- Decode the first instruction of a list of bytes (R90, R91); the rest is handed back. -/
def decode : List Octet → Except DecodeError (Instr × List Octet)
  | [] => .error .noOpcode
  | op :: rest =>
    match dispatch op, rest with
    | .op i, r => .ok (i, r)
    | .opN f, n :: r => .ok (f n, r)
    | .opE f, e :: r => .ok (f e, r)
    | .opNN f, l :: h :: r => .ok (f (mkWord h l), r)
    | _, _ => .error (.operandMissing op)

/-- Byte `k` of a word of the opcode table: the first byte is bits 7..0. -/
def tableByte (w k : Nat) : Octet := BitVec.ofNat 8 (w / 2 ^ (8 * k))

/-- The instruction the decoder reads from a table word of `nbits` bits, the bits above them 0. -/
def decodeTableWord (nbits w : Nat) : Option Instr :=
  let v := w % 2 ^ nbits
  match decode [tableByte v 0, tableByte v 1, tableByte v 2] with
  | .ok (i, _) => some i
  | .error _ => none

/-- The bytes of an instruction (R91, R106), first byte first. -/
def encode : Instr → List Octet
  | .ld_BC_nn nn => [0x01, lo nn, hi nn]
  | .ld_B_n n => [0x06, n]
  | .ld_C_n n => [0x0E, n]
  | .djnz_e e => [0x10, e]
  | .ld_DE_nn nn => [0x11, lo nn, hi nn]
  | .ld_D_n n => [0x16, n]
  | .jr_e e => [0x18, e]
  | .ld_E_n n => [0x1E, n]
  | .jr_NZ_e e => [0x20, e]
  | .ld_HL_nn nn => [0x21, lo nn, hi nn]
  | .ld_mNN_HL nn => [0x22, lo nn, hi nn]
  | .ld_H_n n => [0x26, n]
  | .jr_Z_e e => [0x28, e]
  | .ld_HL_mNN nn => [0x2A, lo nn, hi nn]
  | .ld_L_n n => [0x2E, n]
  | .jr_NC_e e => [0x30, e]
  | .ld_SP_nn nn => [0x31, lo nn, hi nn]
  | .ld_mNN_A nn => [0x32, lo nn, hi nn]
  | .ld_mHL_n n => [0x36, n]
  | .jr_C_e e => [0x38, e]
  | .ld_A_mNN nn => [0x3A, lo nn, hi nn]
  | .ld_A_n n => [0x3E, n]
  | .illegal op => [op]
  | .jp_NZ_nn nn => [0xC2, lo nn, hi nn]
  | .jp_nn nn => [0xC3, lo nn, hi nn]
  | .call_NZ_nn nn => [0xC4, lo nn, hi nn]
  | .add_A_n n => [0xC6, n]
  | .jp_Z_nn nn => [0xCA, lo nn, hi nn]
  | .call_Z_nn nn => [0xCC, lo nn, hi nn]
  | .call_nn nn => [0xCD, lo nn, hi nn]
  | .adc_A_n n => [0xCE, n]
  | .jp_NC_nn nn => [0xD2, lo nn, hi nn]
  | .call_NC_nn nn => [0xD4, lo nn, hi nn]
  | .sub_n n => [0xD6, n]
  | .jp_C_nn nn => [0xDA, lo nn, hi nn]
  | .call_C_nn nn => [0xDC, lo nn, hi nn]
  | .sbc_A_n n => [0xDE, n]
  | .jp_PO_nn nn => [0xE2, lo nn, hi nn]
  | .call_PO_nn nn => [0xE4, lo nn, hi nn]
  | .and_n n => [0xE6, n]
  | .jp_PE_nn nn => [0xEA, lo nn, hi nn]
  | .call_PE_nn nn => [0xEC, lo nn, hi nn]
  | .xor_n n => [0xEE, n]
  | .jp_P_nn nn => [0xF2, lo nn, hi nn]
  | .call_P_nn nn => [0xF4, lo nn, hi nn]
  | .or_n n => [0xF6, n]
  | .jp_M_nn nn => [0xFA, lo nn, hi nn]
  | .call_M_nn nn => [0xFC, lo nn, hi nn]
  | .cp_n n => [0xFE, n]
  | .nop => [0x00]
  | .ld_mBC_A => [0x02]
  | .inc_BC => [0x03]
  | .inc_B => [0x04]
  | .dec_B => [0x05]
  | .rlca => [0x07]
  | .ex_AF_AFalt => [0x08]
  | .add_HL_BC => [0x09]
  | .ld_A_mBC => [0x0A]
  | .dec_BC => [0x0B]
  | .inc_C => [0x0C]
  | .dec_C => [0x0D]
  | .rrca => [0x0F]
  | .ld_mDE_A => [0x12]
  | .inc_DE => [0x13]
  | .inc_D => [0x14]
  | .dec_D => [0x15]
  | .rla => [0x17]
  | .add_HL_DE => [0x19]
  | .ld_A_mDE => [0x1A]
  | .dec_DE => [0x1B]
  | .inc_E => [0x1C]
  | .dec_E => [0x1D]
  | .rra => [0x1F]
  | .inc_HL => [0x23]
  | .inc_H => [0x24]
  | .dec_H => [0x25]
  | .daa => [0x27]
  | .add_HL_HL => [0x29]
  | .dec_HL => [0x2B]
  | .inc_L => [0x2C]
  | .dec_L => [0x2D]
  | .cpl => [0x2F]
  | .inc_SP => [0x33]
  | .inc_mHL => [0x34]
  | .dec_mHL => [0x35]
  | .scf => [0x37]
  | .add_HL_SP => [0x39]
  | .dec_SP => [0x3B]
  | .inc_A => [0x3C]
  | .dec_A => [0x3D]
  | .ccf => [0x3F]
  | .ld_B_B => [0x40]
  | .ld_B_C => [0x41]
  | .ld_B_D => [0x42]
  | .ld_B_E => [0x43]
  | .ld_B_H => [0x44]
  | .ld_B_L => [0x45]
  | .ld_B_mHL => [0x46]
  | .ld_B_A => [0x47]
  | .ld_C_B => [0x48]
  | .ld_C_C => [0x49]
  | .ld_C_D => [0x4A]
  | .ld_C_E => [0x4B]
  | .ld_C_H => [0x4C]
  | .ld_C_L => [0x4D]
  | .ld_C_mHL => [0x4E]
  | .ld_C_A => [0x4F]
  | .ld_D_B => [0x50]
  | .ld_D_C => [0x51]
  | .ld_D_D => [0x52]
  | .ld_D_E => [0x53]
  | .ld_D_H => [0x54]
  | .ld_D_L => [0x55]
  | .ld_D_mHL => [0x56]
  | .ld_D_A => [0x57]
  | .ld_E_B => [0x58]
  | .ld_E_C => [0x59]
  | .ld_E_D => [0x5A]
  | .ld_E_E => [0x5B]
  | .ld_E_H => [0x5C]
  | .ld_E_L => [0x5D]
  | .ld_E_mHL => [0x5E]
  | .ld_E_A => [0x5F]
  | .ld_H_B => [0x60]
  | .ld_H_C => [0x61]
  | .ld_H_D => [0x62]
  | .ld_H_E => [0x63]
  | .ld_H_H => [0x64]
  | .ld_H_L => [0x65]
  | .ld_H_mHL => [0x66]
  | .ld_H_A => [0x67]
  | .ld_L_B => [0x68]
  | .ld_L_C => [0x69]
  | .ld_L_D => [0x6A]
  | .ld_L_E => [0x6B]
  | .ld_L_H => [0x6C]
  | .ld_L_L => [0x6D]
  | .ld_L_mHL => [0x6E]
  | .ld_L_A => [0x6F]
  | .ld_mHL_B => [0x70]
  | .ld_mHL_C => [0x71]
  | .ld_mHL_D => [0x72]
  | .ld_mHL_E => [0x73]
  | .ld_mHL_H => [0x74]
  | .ld_mHL_L => [0x75]
  | .ld_mHL_A => [0x77]
  | .ld_A_B => [0x78]
  | .ld_A_C => [0x79]
  | .ld_A_D => [0x7A]
  | .ld_A_E => [0x7B]
  | .ld_A_H => [0x7C]
  | .ld_A_L => [0x7D]
  | .ld_A_mHL => [0x7E]
  | .ld_A_A => [0x7F]
  | .add_A_B => [0x80]
  | .add_A_C => [0x81]
  | .add_A_D => [0x82]
  | .add_A_E => [0x83]
  | .add_A_H => [0x84]
  | .add_A_L => [0x85]
  | .add_A_mHL => [0x86]
  | .add_A_A => [0x87]
  | .adc_A_B => [0x88]
  | .adc_A_C => [0x89]
  | .adc_A_D => [0x8A]
  | .adc_A_E => [0x8B]
  | .adc_A_H => [0x8C]
  | .adc_A_L => [0x8D]
  | .adc_A_mHL => [0x8E]
  | .adc_A_A => [0x8F]
  | .sub_B => [0x90]
  | .sub_C => [0x91]
  | .sub_D => [0x92]
  | .sub_E => [0x93]
  | .sub_H => [0x94]
  | .sub_L => [0x95]
  | .sub_mHL => [0x96]
  | .sub_A => [0x97]
  | .sbc_A_B => [0x98]
  | .sbc_A_C => [0x99]
  | .sbc_A_D => [0x9A]
  | .sbc_A_E => [0x9B]
  | .sbc_A_H => [0x9C]
  | .sbc_A_L => [0x9D]
  | .sbc_A_mHL => [0x9E]
  | .sbc_A_A => [0x9F]
  | .and_B => [0xA0]
  | .and_C => [0xA1]
  | .and_D => [0xA2]
  | .and_E => [0xA3]
  | .and_H => [0xA4]
  | .and_L => [0xA5]
  | .and_mHL => [0xA6]
  | .and_A => [0xA7]
  | .xor_B => [0xA8]
  | .xor_C => [0xA9]
  | .xor_D => [0xAA]
  | .xor_E => [0xAB]
  | .xor_H => [0xAC]
  | .xor_L => [0xAD]
  | .xor_mHL => [0xAE]
  | .xor_A => [0xAF]
  | .or_B => [0xB0]
  | .or_C => [0xB1]
  | .or_D => [0xB2]
  | .or_E => [0xB3]
  | .or_H => [0xB4]
  | .or_L => [0xB5]
  | .or_mHL => [0xB6]
  | .or_A => [0xB7]
  | .cp_B => [0xB8]
  | .cp_C => [0xB9]
  | .cp_D => [0xBA]
  | .cp_E => [0xBB]
  | .cp_H => [0xBC]
  | .cp_L => [0xBD]
  | .cp_mHL => [0xBE]
  | .cp_A => [0xBF]
  | .ret_NZ => [0xC0]
  | .pop_BC => [0xC1]
  | .push_BC => [0xC5]
  | .rst_00H => [0xC7]
  | .ret_Z => [0xC8]
  | .ret => [0xC9]
  | .rst_08H => [0xCF]
  | .ret_NC => [0xD0]
  | .pop_DE => [0xD1]
  | .push_DE => [0xD5]
  | .rst_10H => [0xD7]
  | .ret_C => [0xD8]
  | .exx => [0xD9]
  | .rst_18H => [0xDF]
  | .ret_PO => [0xE0]
  | .pop_HL => [0xE1]
  | .ex_mSP_HL => [0xE3]
  | .push_HL => [0xE5]
  | .rst_20H => [0xE7]
  | .ret_PE => [0xE8]
  | .jp_HL => [0xE9]
  | .ex_DE_HL => [0xEB]
  | .rst_28H => [0xEF]
  | .ret_P => [0xF0]
  | .pop_AF => [0xF1]
  | .di => [0xF3]
  | .push_AF => [0xF5]
  | .rst_30H => [0xF7]
  | .ret_M => [0xF8]
  | .ld_SP_HL => [0xF9]
  | .ei => [0xFB]
  | .rst_38H => [0xFF]

/-- The first byte of an instruction's encoding. -/
def opcodeOf (i : Instr) : Octet := (encode i).headD 0

end Sys2Proof
end

