-- ==== Sys2Proof/Machine/Flags.lean ====
section
/-! DEFINITION. The flags engine (40_flags_engine.md): affections, the carry, overflow and parity predicates, and the function
that each of the source's flag tables holds (R120). Pure functions, no state. -/

namespace Sys2Proof.Machine

/-! ## Masks of the flags in F (R27) -/

def maskS : Octet := 0x80
def maskZ : Octet := 0x40
def maskF5 : Octet := 0x20
def maskH : Octet := 0x10
def maskF3 : Octet := 0x08
def maskPV : Octet := 0x04
def maskN : Octet := 0x02
def maskC : Octet := 0x01

/-- The mask if the flag is set, else 0. -/
def flagIf (b : Bool) (mask : Octet) : Octet := if b then mask else 0

/-! ## Affections -/

/-- A flags affection (R121): the bits forced to 1, the bits forced to 0; a bit in neither is left as it was. -/
structure Affection where
  set : Octet
  clear : Octet
  deriving DecidableEq, Repr

/-- `Aff(mask, value)` (R121): give the flags in `mask` the bits of `value`. -/
def aff (mask value : Octet) : Affection := { set := value &&& mask, clear := ~~~value &&& mask }

/-- `Apply(aff, F)` (R122). -/
def applyAff (x : Affection) (f : Octet) : Octet := (f ||| x.set) &&& ~~~x.clear

/-- `L AND R` (R123): R wins on every flag both affect. -/
def overlay (l r : Affection) : Affection :=
  { set := (l.set &&& ~~~r.clear) ||| r.set, clear := (l.clear &&& ~~~r.set) ||| r.clear }

/-! ## Predicates -/

/-- `CarryAdd` (R124): strict without a carry-in, non-strict with one. -/
def carryAdd {w : Nat} (a res mask : BitVec w) (cin : Bool) : Bool :=
  if cin then (res &&& mask).ule (a &&& mask) else (res &&& mask).ult (a &&& mask)

/-- `BorrowSub` (R124): strict without a borrow-in, non-strict with one. -/
def borrowSub {w : Nat} (a res mask : BitVec w) (cin : Bool) : Bool :=
  if cin then (a &&& mask).ule (res &&& mask) else (a &&& mask).ult (res &&& mask)

/-- `OverflowAdd` (R125). -/
def overflowAdd (a b res : Octet) : Bool := ((a ^^^ b ^^^ 0x80) &&& (b ^^^ res) &&& 0x80) != 0

/-- `UnderflowSub` (R125). -/
def underflowSub (a b res : Octet) : Bool := ((a ^^^ b) &&& (a ^^^ res) &&& 0x80) != 0

/-- `Parity(v)` (R125): an even number of 1 bits. -/
def parity (v : Octet) : Bool :=
  !(v.getLsbD 0 ^^ v.getLsbD 1 ^^ v.getLsbD 2 ^^ v.getLsbD 3 ^^ v.getLsbD 4 ^^ v.getLsbD 5 ^^ v.getLsbD 6 ^^ v.getLsbD 7)

/-! ## The tables -/

/-- The value octet of `Intrinsic(v)`: S, F5, F3 copied from `v`, Z when `v` is 0. -/
def intrinsicBits (v : Octet) : Octet := (v &&& 0xA8) ||| flagIf (v == 0) maskZ

/-- `Intrinsic(v)` (R126). -/
def intrinsic (v : Octet) : Affection := aff 0xE8 (intrinsicBits v)

/-- `Add8(a, b, cin)` (R127). -/
def add8 (a b : Octet) (cin : Bool) : Octet × Affection :=
  let res := a + b + bitOf cin
  (res, aff 0xFF (intrinsicBits res ||| flagIf (carryAdd a res 0x0F cin) maskH ||| flagIf (overflowAdd a b res) maskPV
    ||| flagIf (carryAdd a res 0xFF cin) maskC))

/-- `Sub8(a, b, cin)` (R128). -/
def sub8 (a b : Octet) (cin : Bool) : Octet × Affection :=
  let res := a - b - bitOf cin
  (res, aff 0xFF (intrinsicBits res ||| flagIf (borrowSub a res 0x0F cin) maskH ||| flagIf (underflowSub a b res) maskPV
    ||| maskN ||| flagIf (borrowSub a res 0xFF cin) maskC))

/-- `Cp8(a, b)` (R129): the flags of SUB with F5 and F3 from the operand. -/
def cp8 (a b : Octet) : Affection := overlay (sub8 a b false).2 (aff 0x28 (b &&& 0x28))

/-- `Inc8(a)` (R130): ADD(a, 1) with C left out. -/
def inc8 (a : Octet) : Octet × Affection := ((add8 a 1 false).1, aff 0xFE (add8 a 1 false).2.set)

/-- `Dec8(a)` (R131): SUB(a, 1) with C left out. -/
def dec8 (a : Octet) : Octet × Affection := ((sub8 a 1 false).1, aff 0xFE (sub8 a 1 false).2.set)

/-- `AndFlags(v)` (R132). -/
def andFlags (v : Octet) : Affection := overlay (intrinsic v) (aff 0x17 (maskH ||| flagIf (parity v) maskPV))

/-- `OrXorFlags(v)` (R133). -/
def orXorFlags (v : Octet) : Affection := overlay (intrinsic v) (aff 0x17 (flagIf (parity v) maskPV))

/-- `RotAFlags(v)` (R134). -/
def rotAFlags (v : Octet) : Affection := aff 0x3A (v &&& 0x28)

/-- `Add16(a, b)` (R135): H across bit 11/12, C across bit 15, F5 and F3 from the high octet of the result. -/
def add16 (a b : Word) : Word × Affection :=
  let res := a + b
  (res, aff 0x3B ((hi res &&& 0x28) ||| flagIf (carryAdd a res 0x0FFF false) maskH ||| flagIf (carryAdd a res 0xFFFF false) maskC))

/-! ## The accumulator functions of R214 to R221 -/

/-- The flags of a rotate (R214 to R217): `RotAFlags(res) AND Aff(0x01, c)`. -/
def rotateFlags (res : Octet) (c : Bool) : Affection := overlay (rotAFlags res) (aff 0x01 (bitOf c))

/-- RLCA (R214): the new accumulator and the bit rotated out. -/
def rotLeftCircular (a : Octet) : Octet × Bool := ((a <<< 1) ||| bitOf (a.getLsbD 7), a.getLsbD 7)

/-- RRCA (R215). -/
def rotRightCircular (a : Octet) : Octet × Bool := ((a >>> 1) ||| (bitOf (a.getLsbD 0) <<< 7), a.getLsbD 0)

/-- RLA (R216): through the carry flag. -/
def rotLeftCarry (a : Octet) (c : Bool) : Octet × Bool := ((a <<< 1) ||| bitOf c, a.getLsbD 7)

/-- RRA (R217): through the carry flag. -/
def rotRightCarry (a : Octet) (c : Bool) : Octet × Bool := ((a >>> 1) ||| (bitOf c <<< 7), a.getLsbD 0)

/-- DAA (R218) on the accumulator and the flags H, N, C: the result and its affection. -/
def daa (a : Octet) (h n c : Bool) : Octet × Affection :=
  let low := h || (0x09 : Octet).ult (a &&& 0x0F)
  let high := c || (0x99 : Octet).ult a
  let corr := flagIf low 0x06 ||| flagIf high 0x60
  let res := if n then a - corr else a + corr
  let h' := if n then h && (a &&& 0x0F).ult 0x06 else (0x09 : Octet).ult (a &&& 0x0F)
  (res, overlay (intrinsic res) (aff 0x15 (flagIf h' maskH ||| flagIf (parity res) maskPV ||| flagIf high maskC)))

/-- CPL's affection (R219), of the complemented accumulator. -/
def cplFlags (res : Octet) : Affection := aff 0x3A ((res &&& 0x28) ||| 0x12)

/-- SCF's affection (R220), of the accumulator. -/
def scfFlags (a : Octet) : Affection := aff 0x3B ((a &&& 0x28) ||| 0x01)

/-- CCF's affection (R221), of the accumulator and the flag C before. -/
def ccfFlags (a : Octet) (c : Bool) : Affection := aff 0x3B ((a &&& 0x28) ||| (if c then 0x10 else 0x01))

end Sys2Proof.Machine
end

