-- ==== Sys2Proof/Config.lean ====
section
/-! DEFINITION. The free values: what the spec leaves open and nothing in Lean can evaluate. Each is applied to the
counter `draws` of State, so that every draw is a value of its own. -/

namespace Sys2Proof

/-- `RESET_GPR` (R3, R50, D10): what BC, DE, HL and the shadow pairs hold after a reset. Free: log entry 2. -/
opaque Config.resetWord : Nat → Word

/-- The octet the Bus answers to an interrupt acknowledge (R61, R64) where the environment has supplied none.
Free: log entry 3. -/
opaque Config.ackOctet : Nat → Octet

end Sys2Proof
end

