-- ==== Sys2Proof/Machine/State.lean ====
section
/-! DEFINITION. The state of the core: the elements of 10_state.md section 1 (R22 to R41), the address space behind the
Bus (R60), and three fields of the model's own (`ackQueue`, `draws`, `trace`). Plain data. -/

namespace Sys2Proof.Machine

/-- The interrupt mode, legal values 0, 1 and 2 only (R41). -/
inductive IntMode where
  | im0
  | im1
  | im2
  deriving DecidableEq, Repr

/-- One completed bus operation (R61 to R64): a read with the octet returned, a write, an acknowledge with the octet
returned. -/
inductive BusOp where
  | read (a : Word) (v : Octet)
  | write (a : Word) (v : Octet)
  | ack (v : Octet)
  deriving DecidableEq, Repr

/-- The octets behind the Bus (R60): address and octet pairs, in the canonical form of `Memory.wf`. -/
abbrev Memory := List Host.Cell

structure State where
  /-- AF: accumulator A (high) and flags F (low), R22, R23, R27. -/
  af : Word
  /-- BC, R22. -/
  bc : Word
  /-- DE, R22. -/
  de : Word
  /-- HL, R22. -/
  hl : Word
  /-- Shadow AF (R25). -/
  af' : Word
  /-- Shadow BC (R25). -/
  bc' : Word
  /-- Shadow DE (R25). -/
  de' : Word
  /-- Shadow HL (R25). -/
  hl' : Word
  /-- Program counter (R29). -/
  pc : Word
  /-- Stack pointer (R31). -/
  sp : Word
  /-- Interrupt vector base I (R32). -/
  i : Octet
  /-- Maskable-interrupt enable (R33). -/
  iff1 : Bool
  /-- Saved enable (R34). -/
  iff2 : Bool
  /-- NMI pending (R35). -/
  nmiFF : Bool
  /-- INT pending: the level of the INT line (R36). -/
  intFF : Bool
  /-- "Just executed EI" (R37). -/
  eiFF : Bool
  /-- Interrupt mode (R41). -/
  im : IntMode
  /-- T-cycle counter (R40). -/
  cycles : BitVec 64
  /-- Pending external reset request (R38). -/
  resetReq : Bool
  /-- Latched level of the NMI input (R39). -/
  nmiLine : Bool
  /-- Latched level of the INT input (R39). -/
  intLine : Bool
  /-- The octets of the address space behind the Bus (R60, R61, R76): what a read returns where the environment has no other
  answer pending (log entry 4). -/
  mem : Memory
  /-- The model's own: the octets the environment will answer to the next reads of an address, oldest first, whatever `mem` holds there
  (R61, R73, R75; log entry 4). -/
  busAnswers : List (Word × Octet)
  /-- The model's own: octets the environment will answer to the next acknowledges (R64; log entry 3). -/
  ackQueue : List Octet
  /-- The model's own: how many free values have been drawn (log entries 2 and 3). -/
  draws : Nat
  /-- The model's own: bus operations of the current step, oldest first (R69, R73; log entry 8). -/
  trace : List BusOp
  deriving DecidableEq, Repr

/-- Why a step ends without a next state. -/
inductive Fault where
  /-- IllegalOpcode (R283, R310): raised by the Illegal sentinel for the octet `op`; `post` is the state in which the core stands
  after the faulting step, from which the host may step again (D14, D30). Safe: the spec reports this fault itself. -/
  | illegalOpcode (op : Octet) (post : State)
  deriving DecidableEq, Repr

/-- Why the model has no meaning for an instruction. -/
inductive Refusal where
  /-- An instruction without a meaning yet; raised by an arm of `exec` alone. Safe. No arm raises it in this model. -/
  | notModelled (mnemonic : String)
  deriving DecidableEq, Repr

/-- What a meaning answers. -/
abbrev Result := Host.Outcome State Fault Refusal

/-- The state at creation (R52): the values of R46 and R47, an idle environment, CYCLES 0. The seven pairs that
R50 leaves unspecified hold 0x0000 here (log entry 1, DESIGN CHOICE). -/
def State.reset : State where
  af := 0xFFFF
  bc := 0x0000
  de := 0x0000
  hl := 0x0000
  af' := 0x0000
  bc' := 0x0000
  de' := 0x0000
  hl' := 0x0000
  pc := 0x0000
  sp := 0xFFFF
  i := 0x00
  iff1 := false
  iff2 := false
  nmiFF := false
  intFF := false
  eiFF := false
  im := .im0
  cycles := 0
  resetReq := false
  nmiLine := false
  intLine := false
  mem := []
  busAnswers := []
  ackQueue := []
  draws := 0
  trace := []

end Sys2Proof.Machine
end

