-- ==== Sys2Proof/Machine/Ops.lean ====
section
/-! DEFINITION. The shared operations: memory, the three bus operations, word accesses, the stack, calling and returning,
entering a handler, the reset operation, ending an instruction. -/

namespace Sys2Proof.Machine

/-! ## Memory -/

/-- What an address nothing has written reads as (U10; log entry 5, DESIGN CHOICE). -/
def Memory.unlisted : Octet := 0x00

/-- The octet at address `a`: the first entry listed for it. -/
def Memory.read : Memory → Nat → Octet
  | [], _ => Memory.unlisted
  | (b, v) :: m, a => if a = b then v else Memory.read m a

/-- Remove every entry for address `a`. -/
def Memory.erase : Memory → Nat → Memory
  | [], _ => []
  | (b, v) :: m, a => if a = b then Memory.erase m a else (b, v) :: Memory.erase m a

/-- Put the entry `(a, v)` in its place by address. -/
def Memory.insert : Memory → Nat → Octet → Memory
  | [], a, v => [(a, v)]
  | (b, w) :: m, a, v =>
    if b < a then (b, w) :: Memory.insert m a v
    else if a = b then (a, v) :: m
    else (a, v) :: (b, w) :: m

/-- Write octet `v` at `a`; writing what an unlisted address reads as removes the entry. -/
def Memory.write (m : Memory) (a : Nat) (v : Octet) : Memory :=
  if v = Memory.unlisted then Memory.erase m a else Memory.insert m a v

/-- The octet at a Word address (R60). -/
def Memory.get (m : Memory) (a : Word) : Octet := Memory.read m a.toNat

/-- Write an octet at a Word address (R60). -/
def Memory.put (m : Memory) (a : Word) (v : Octet) : Memory := Memory.write m a.toNat v

/-- The canonical form: addresses strictly rising and below 2^16, no entry equal to what an unlisted address reads as. -/
def Memory.wf : Memory → Bool
  | [] => true
  | (a, v) :: m => decide (a < 65536) && decide (v ≠ Memory.unlisted) && m.all (fun c => decide (a < c.1)) && Memory.wf m

/-! ## The bus operations -/

/-- The octet that memory holds at Word address `a`, looked at without a bus operation. -/
def State.peek (s : State) (a : Word) : Octet := Memory.get s.mem a

/-- The oldest answer pending for address `a`, if the environment has one (R61; log entry 4). -/
def pendingAnswer : List (Word × Octet) → Word → Option Octet
  | [], _ => none
  | (b, v) :: q, a => if a = b then some v else pendingAnswer q a

/-- The pending answers after one read of `a`: its oldest one is taken, if it has one. -/
def dropAnswer : List (Word × Octet) → Word → List (Word × Octet)
  | [], _ => []
  | (b, v) :: q, a => if a = b then q else (b, v) :: dropAnswer q a

/-- What the Bus answers to a read of `a` now (R61, R76): the environment's pending octet, else what memory holds. -/
def State.answer (s : State) (a : Word) : Octet := (pendingAnswer s.busAnswers a).getD (s.peek a)

/-- `MemRead(a, 1)` (R62): one bus read. The core puts no condition on the octet (R61). -/
def busRead (a : Word) (s : State) : Octet × State :=
  (s.answer a, { s with busAnswers := dropAnswer s.busAnswers a, trace := s.trace ++ [.read a (s.answer a)] })

/-- `MemWrite(a, 1, v)` (R63): one bus write. -/
def busWrite (a : Word) (v : Octet) (s : State) : State :=
  { s with mem := Memory.put s.mem a v, trace := s.trace ++ [.write a v] }

/-- `IntAck()` (R64): one acknowledge. The environment's next octet, or a free value where it has supplied none (log entry 3). -/
def intAck (s : State) : Octet × State :=
  match s.ackQueue with
  | v :: rest => (v, { s with ackQueue := rest, trace := s.trace ++ [.ack v] })
  | [] =>
    (Config.ackOctet s.draws,
      { s with draws := s.draws + 1, trace := s.trace ++ [.ack (Config.ackOctet s.draws)] })

/-- `MemRead(a, 2)` (R66): low octet at `a` first, then the high octet at `a + 1`. -/
def busReadWord (a : Word) (s : State) : Word × State :=
  let l := busRead a s
  let h := busRead (a + 1) l.2
  (mkWord h.1 l.1, h.2)

/-- `MemWrite(a, 2, w)` (R67): low octet at `a` first, then the high octet at `a + 1`. -/
def busWriteWord (a : Word) (w : Word) (s : State) : State :=
  busWrite (a + 1) (hi w) (busWrite a (lo w) s)

/-! ## Stack and control primitives -/

/-- `Push(w)` (R250). -/
def push (w : Word) (s : State) : State :=
  busWriteWord (s.sp - 2) w { s with sp := s.sp - 2 }

/-- `Pop()` (R251). -/
def pop (s : State) : Word × State :=
  let r := busReadWord s.sp s
  (r.1, { r.2 with sp := s.sp + 2 })

/-- `Call(dest)` (R252): push the PC of the moment, then assign PC. -/
def call (dest : Word) (s : State) : State := { push s.pc s with pc := dest }

/-- Charge `n` T-cycles (R40): modulo 2^64. -/
def charge (n : BitVec 64) (s : State) : State := { s with cycles := s.cycles + n }

/-- End an instruction that does not transfer control (R30): `PC <- pc0 + len`, charge its cost. -/
def retire (len : Word) (cost : BitVec 64) (s : State) : State :=
  charge cost { s with pc := s.pc + len }

/-- End an instruction that assigns PC (R30): `PC <- target`, charge its cost. -/
def jumpTo (target : Word) (cost : BitVec 64) (s : State) : State :=
  charge cost { s with pc := target }

/-- Return (R262): `PC <- Pop()`, charge the cost. A handler returns by this and nothing else (R314). -/
def returnFrom (cost : BitVec 64) (s : State) : State :=
  let r := pop s
  jumpTo r.1 cost r.2

/-! ## Taking an asynchronous entry -/

/-- NMI_VECTOR (R3, R302). -/
def nmiVector : Word := 0x0066

/-- INT1_VECTOR (R3, R307). -/
def int1Vector : Word := 0x0038

/-- Enter a handler (R302, R307, R308, R314): save PC on the stack and nothing else, continue at `dest`, charge the
entry's cost. The enable bits are changed by the stage that enters. -/
def enterHandler (dest : Word) (cost : BitVec 64) (s : State) : State := charge cost (call dest s)

/-! ## Reset -/

/-- `ResetRegisterBank()` (R350): the values of R46 and R47, free values for the seven pairs of R50 (log entry 2); CYCLES, the two
lines, RESET_REQ and memory stay (R51). -/
def resetRegisterBank (s : State) : State :=
  { s with
    af := 0xFFFF, sp := 0xFFFF, pc := 0x0000
    iff1 := false, iff2 := false, nmiFF := false, intFF := s.intLine
    i := 0x00, im := .im0, eiFF := false
    bc := Config.resetWord s.draws
    de := Config.resetWord (s.draws + 1)
    hl := Config.resetWord (s.draws + 2)
    af' := Config.resetWord (s.draws + 3)
    bc' := Config.resetWord (s.draws + 4)
    de' := Config.resetWord (s.draws + 5)
    hl' := Config.resetWord (s.draws + 6)
    draws := s.draws + 7 }

end Sys2Proof.Machine
end

