-- ==== Sys2Proof/Machine/Operands.lean ====
section
/-! DEFINITION. The operand model (R98): names of registers, pairs, conditions and ALU operands with the codes of R100 to
R105, and how each is read and written. -/

namespace Sys2Proof.Machine

/-! ## 8-bit registers (R23, R100) -/

/-- The 8-bit register field r (R100): the seven registers an instruction can name. -/
inductive Reg8 where
  | B
  | C
  | D
  | E
  | H
  | L
  | A
  deriving DecidableEq, Repr

/-- The code of r (R100). -/
def Reg8.code : Reg8 → Octet
  | .B => 0
  | .C => 1
  | .D => 2
  | .E => 3
  | .H => 4
  | .L => 5
  | .A => 7

/-- A, the high half of AF (R23). -/
def State.a (s : State) : Octet := hi s.af

/-- F, the low half of AF (R23, R27). -/
def State.f (s : State) : Octet := lo s.af

/-- `F <- v`: A is left (R24). -/
def State.setF (s : State) (v : Octet) : State := { s with af := withLo s.af v }

/-- `r8[r]` (R7, R23). -/
def State.r8 (s : State) : Reg8 → Octet
  | .B => hi s.bc
  | .C => lo s.bc
  | .D => hi s.de
  | .E => lo s.de
  | .H => hi s.hl
  | .L => lo s.hl
  | .A => hi s.af

/-- `r8[r] <- v`: the other half of the pair is left (R24). -/
def State.setR8 (s : State) : Reg8 → Octet → State
  | .B, v => { s with bc := withHi s.bc v }
  | .C, v => { s with bc := withLo s.bc v }
  | .D, v => { s with de := withHi s.de v }
  | .E, v => { s with de := withLo s.de v }
  | .H, v => { s with hl := withHi s.hl v }
  | .L, v => { s with hl := withLo s.hl v }
  | .A, v => { s with af := withHi s.af v }

/-! ## Flags of F (R27) -/

/-- A flag of F by its mask (R27). -/
def State.flag (s : State) (mask : Octet) : Bool := (s.f &&& mask) != 0

/-- `F <- Apply(aff, F)` (R8, R122). -/
def State.affect (s : State) (x : Affection) : State := s.setF (applyAff x s.f)

/-! ## Pairs (R101, R102) -/

/-- The pair field dd / ss (R101). -/
inductive Pair where
  | BC
  | DE
  | HL
  | SP
  deriving DecidableEq, Repr

def Pair.code : Pair → Octet
  | .BC => 0
  | .DE => 1
  | .HL => 2
  | .SP => 3

/-- `r16[ss]`. -/
def State.r16 (s : State) : Pair → Word
  | .BC => s.bc
  | .DE => s.de
  | .HL => s.hl
  | .SP => s.sp

/-- `r16[dd] <- w`. -/
def State.setR16 (s : State) : Pair → Word → State
  | .BC, w => { s with bc := w }
  | .DE, w => { s with de := w }
  | .HL, w => { s with hl := w }
  | .SP, w => { s with sp := w }

/-- The pair field qq of PUSH and POP (R102). -/
inductive StackPair where
  | BC
  | DE
  | HL
  | AF
  deriving DecidableEq, Repr

def StackPair.code : StackPair → Octet
  | .BC => 0
  | .DE => 1
  | .HL => 2
  | .AF => 3

/-- `r16[qq]`. -/
def State.rqq (s : State) : StackPair → Word
  | .BC => s.bc
  | .DE => s.de
  | .HL => s.hl
  | .AF => s.af

/-- `r16[qq] <- w`. -/
def State.setRqq (s : State) : StackPair → Word → State
  | .BC, w => { s with bc := w }
  | .DE, w => { s with de := w }
  | .HL, w => { s with hl := w }
  | .AF, w => { s with af := w }

/-- The pair that holds the address in (BC) and (DE) (R98; R165, R166, R168, R169). -/
inductive Pointer where
  | BC
  | DE
  deriving DecidableEq, Repr

def State.pointer (s : State) : Pointer → Word
  | .BC => s.bc
  | .DE => s.de

/-! ## Conditions (R103, R253) -/

inductive Cond where
  | NZ
  | Z
  | NC
  | C
  | PO
  | PE
  | P
  | M
  deriving DecidableEq, Repr

def Cond.code : Cond → Octet
  | .NZ => 0
  | .Z => 1
  | .NC => 2
  | .C => 3
  | .PO => 4
  | .PE => 5
  | .P => 6
  | .M => 7

/-- `cond(cc)` (R253), of F as it is. -/
def State.holds (s : State) : Cond → Bool
  | .NZ => !s.flag maskZ
  | .Z => s.flag maskZ
  | .NC => !s.flag maskC
  | .C => s.flag maskC
  | .PO => !s.flag maskPV
  | .PE => s.flag maskPV
  | .P => !s.flag maskS
  | .M => s.flag maskS

/-- The four conditions of JR cc (R103, R258). -/
inductive ShortCond where
  | NZ
  | Z
  | NC
  | C
  deriving DecidableEq, Repr

def ShortCond.toCond : ShortCond → Cond
  | .NZ => .NZ
  | .Z => .Z
  | .NC => .NC
  | .C => .C

/-! ## Relative and restart targets -/

/-- The target of a relative jump (R95): relative to the address after the two-byte instruction. -/
def relTarget (pc0 : Word) (e : Octet) : Word := pc0 + 2 + sext16 e

/-- The target of RST (R105): p = y * 8. -/
def rstTarget (t : Fin 8) : Word := BitVec.ofNat 16 (t.val * 8)

/-! ## The second operand of the accumulator operations (R104, R208) -/

/-- The operand s (R208): a register, the octet at (HL), an immediate. -/
inductive AluSource where
  | reg (r : Reg8)
  | mHL
  | imm (n : Octet)
  deriving DecidableEq, Repr

/-- Read s once (R208). An immediate has been read by the fetch already (R94). -/
def readSource (src : AluSource) (s : State) : Octet × State :=
  match src with
  | .reg r => (s.r8 r, s)
  | .mHL => busRead s.hl s
  | .imm n => (n, s)

/-- Length of the form (R208). -/
def sourceLength : AluSource → Word
  | .reg _ => 1
  | .mHL => 1
  | .imm _ => 2

/-- Cost of the form (R208). -/
def sourceCost : AluSource → BitVec 64
  | .reg _ => 4
  | .mHL => 7
  | .imm _ => 7

end Sys2Proof.Machine
end

