-- ==== Sys2Proof/Machine/Alu8.lean ====
section
/-! DEFINITION. The eight accumulator operations (R200 to R208), each in its three operand forms. -/

namespace Sys2Proof.Machine

/-- ADD A,s (R200). -/
def addA (src : AluSource) (s : State) : State :=
  let v := readSource src s
  let r := add8 s.a v.1 false
  retire (sourceLength src) (sourceCost src) ((v.2.setR8 .A r.1).affect r.2)

/-- ADC A,s (R201): the carry-in is the flag C of before. -/
def adcA (src : AluSource) (s : State) : State :=
  let v := readSource src s
  let r := add8 s.a v.1 (s.flag maskC)
  retire (sourceLength src) (sourceCost src) ((v.2.setR8 .A r.1).affect r.2)

/-- SUB s (R202). -/
def subA (src : AluSource) (s : State) : State :=
  let v := readSource src s
  let r := sub8 s.a v.1 false
  retire (sourceLength src) (sourceCost src) ((v.2.setR8 .A r.1).affect r.2)

/-- SBC A,s (R203): the borrow-in is the flag C of before. -/
def sbcA (src : AluSource) (s : State) : State :=
  let v := readSource src s
  let r := sub8 s.a v.1 (s.flag maskC)
  retire (sourceLength src) (sourceCost src) ((v.2.setR8 .A r.1).affect r.2)

/-- AND s (R204). -/
def andA (src : AluSource) (s : State) : State :=
  let v := readSource src s
  let res := s.a &&& v.1
  retire (sourceLength src) (sourceCost src) ((v.2.setR8 .A res).affect (andFlags res))

/-- XOR s (R205). -/
def xorA (src : AluSource) (s : State) : State :=
  let v := readSource src s
  let res := s.a ^^^ v.1
  retire (sourceLength src) (sourceCost src) ((v.2.setR8 .A res).affect (orXorFlags res))

/-- OR s (R206). -/
def orA (src : AluSource) (s : State) : State :=
  let v := readSource src s
  let res := s.a ||| v.1
  retire (sourceLength src) (sourceCost src) ((v.2.setR8 .A res).affect (orXorFlags res))

/-- CP s (R207): A is not written. -/
def cpA (src : AluSource) (s : State) : State :=
  let v := readSource src s
  retire (sourceLength src) (sourceCost src) (v.2.affect (cp8 s.a v.1))

/-! ## The instructions -/

/-- ADD A,n (R200). -/
def execAdd_A_n (n : Octet) (s : State) : Result := .next (addA (.imm n) s)

/-- ADD A,B (R200). -/
def execAdd_A_B (s : State) : Result := .next (addA (.reg .B) s)

/-- ADD A,C (R200). -/
def execAdd_A_C (s : State) : Result := .next (addA (.reg .C) s)

/-- ADD A,D (R200). -/
def execAdd_A_D (s : State) : Result := .next (addA (.reg .D) s)

/-- ADD A,E (R200). -/
def execAdd_A_E (s : State) : Result := .next (addA (.reg .E) s)

/-- ADD A,H (R200). -/
def execAdd_A_H (s : State) : Result := .next (addA (.reg .H) s)

/-- ADD A,L (R200). -/
def execAdd_A_L (s : State) : Result := .next (addA (.reg .L) s)

/-- ADD A,(HL) (R200). -/
def execAdd_A_mHL (s : State) : Result := .next (addA .mHL s)

/-- ADD A,A (R200). -/
def execAdd_A_A (s : State) : Result := .next (addA (.reg .A) s)

/-- ADC A,n (R201). -/
def execAdc_A_n (n : Octet) (s : State) : Result := .next (adcA (.imm n) s)

/-- ADC A,B (R201). -/
def execAdc_A_B (s : State) : Result := .next (adcA (.reg .B) s)

/-- ADC A,C (R201). -/
def execAdc_A_C (s : State) : Result := .next (adcA (.reg .C) s)

/-- ADC A,D (R201). -/
def execAdc_A_D (s : State) : Result := .next (adcA (.reg .D) s)

/-- ADC A,E (R201). -/
def execAdc_A_E (s : State) : Result := .next (adcA (.reg .E) s)

/-- ADC A,H (R201). -/
def execAdc_A_H (s : State) : Result := .next (adcA (.reg .H) s)

/-- ADC A,L (R201). -/
def execAdc_A_L (s : State) : Result := .next (adcA (.reg .L) s)

/-- ADC A,(HL) (R201). -/
def execAdc_A_mHL (s : State) : Result := .next (adcA .mHL s)

/-- ADC A,A (R201). -/
def execAdc_A_A (s : State) : Result := .next (adcA (.reg .A) s)

/-- SUB n (R202). -/
def execSub_n (n : Octet) (s : State) : Result := .next (subA (.imm n) s)

/-- SUB B (R202). -/
def execSub_B (s : State) : Result := .next (subA (.reg .B) s)

/-- SUB C (R202). -/
def execSub_C (s : State) : Result := .next (subA (.reg .C) s)

/-- SUB D (R202). -/
def execSub_D (s : State) : Result := .next (subA (.reg .D) s)

/-- SUB E (R202). -/
def execSub_E (s : State) : Result := .next (subA (.reg .E) s)

/-- SUB H (R202). -/
def execSub_H (s : State) : Result := .next (subA (.reg .H) s)

/-- SUB L (R202). -/
def execSub_L (s : State) : Result := .next (subA (.reg .L) s)

/-- SUB (HL) (R202). -/
def execSub_mHL (s : State) : Result := .next (subA .mHL s)

/-- SUB A (R202). -/
def execSub_A (s : State) : Result := .next (subA (.reg .A) s)

/-- SBC A,n (R203). -/
def execSbc_A_n (n : Octet) (s : State) : Result := .next (sbcA (.imm n) s)

/-- SBC A,B (R203). -/
def execSbc_A_B (s : State) : Result := .next (sbcA (.reg .B) s)

/-- SBC A,C (R203). -/
def execSbc_A_C (s : State) : Result := .next (sbcA (.reg .C) s)

/-- SBC A,D (R203). -/
def execSbc_A_D (s : State) : Result := .next (sbcA (.reg .D) s)

/-- SBC A,E (R203). -/
def execSbc_A_E (s : State) : Result := .next (sbcA (.reg .E) s)

/-- SBC A,H (R203). -/
def execSbc_A_H (s : State) : Result := .next (sbcA (.reg .H) s)

/-- SBC A,L (R203). -/
def execSbc_A_L (s : State) : Result := .next (sbcA (.reg .L) s)

/-- SBC A,(HL) (R203). -/
def execSbc_A_mHL (s : State) : Result := .next (sbcA .mHL s)

/-- SBC A,A (R203). -/
def execSbc_A_A (s : State) : Result := .next (sbcA (.reg .A) s)

/-- AND n (R204). -/
def execAnd_n (n : Octet) (s : State) : Result := .next (andA (.imm n) s)

/-- AND B (R204). -/
def execAnd_B (s : State) : Result := .next (andA (.reg .B) s)

/-- AND C (R204). -/
def execAnd_C (s : State) : Result := .next (andA (.reg .C) s)

/-- AND D (R204). -/
def execAnd_D (s : State) : Result := .next (andA (.reg .D) s)

/-- AND E (R204). -/
def execAnd_E (s : State) : Result := .next (andA (.reg .E) s)

/-- AND H (R204). -/
def execAnd_H (s : State) : Result := .next (andA (.reg .H) s)

/-- AND L (R204). -/
def execAnd_L (s : State) : Result := .next (andA (.reg .L) s)

/-- AND (HL) (R204). -/
def execAnd_mHL (s : State) : Result := .next (andA .mHL s)

/-- AND A (R204). -/
def execAnd_A (s : State) : Result := .next (andA (.reg .A) s)

/-- XOR n (R205). -/
def execXor_n (n : Octet) (s : State) : Result := .next (xorA (.imm n) s)

/-- XOR B (R205). -/
def execXor_B (s : State) : Result := .next (xorA (.reg .B) s)

/-- XOR C (R205). -/
def execXor_C (s : State) : Result := .next (xorA (.reg .C) s)

/-- XOR D (R205). -/
def execXor_D (s : State) : Result := .next (xorA (.reg .D) s)

/-- XOR E (R205). -/
def execXor_E (s : State) : Result := .next (xorA (.reg .E) s)

/-- XOR H (R205). -/
def execXor_H (s : State) : Result := .next (xorA (.reg .H) s)

/-- XOR L (R205). -/
def execXor_L (s : State) : Result := .next (xorA (.reg .L) s)

/-- XOR (HL) (R205). -/
def execXor_mHL (s : State) : Result := .next (xorA .mHL s)

/-- XOR A (R205). -/
def execXor_A (s : State) : Result := .next (xorA (.reg .A) s)

/-- OR n (R206). -/
def execOr_n (n : Octet) (s : State) : Result := .next (orA (.imm n) s)

/-- OR B (R206). -/
def execOr_B (s : State) : Result := .next (orA (.reg .B) s)

/-- OR C (R206). -/
def execOr_C (s : State) : Result := .next (orA (.reg .C) s)

/-- OR D (R206). -/
def execOr_D (s : State) : Result := .next (orA (.reg .D) s)

/-- OR E (R206). -/
def execOr_E (s : State) : Result := .next (orA (.reg .E) s)

/-- OR H (R206). -/
def execOr_H (s : State) : Result := .next (orA (.reg .H) s)

/-- OR L (R206). -/
def execOr_L (s : State) : Result := .next (orA (.reg .L) s)

/-- OR (HL) (R206). -/
def execOr_mHL (s : State) : Result := .next (orA .mHL s)

/-- OR A (R206). -/
def execOr_A (s : State) : Result := .next (orA (.reg .A) s)

/-- CP n (R207). -/
def execCp_n (n : Octet) (s : State) : Result := .next (cpA (.imm n) s)

/-- CP B (R207). -/
def execCp_B (s : State) : Result := .next (cpA (.reg .B) s)

/-- CP C (R207). -/
def execCp_C (s : State) : Result := .next (cpA (.reg .C) s)

/-- CP D (R207). -/
def execCp_D (s : State) : Result := .next (cpA (.reg .D) s)

/-- CP E (R207). -/
def execCp_E (s : State) : Result := .next (cpA (.reg .E) s)

/-- CP H (R207). -/
def execCp_H (s : State) : Result := .next (cpA (.reg .H) s)

/-- CP L (R207). -/
def execCp_L (s : State) : Result := .next (cpA (.reg .L) s)

/-- CP (HL) (R207). -/
def execCp_mHL (s : State) : Result := .next (cpA .mHL s)

/-- CP A (R207). -/
def execCp_A (s : State) : Result := .next (cpA (.reg .A) s)

end Sys2Proof.Machine
end

