-- ==== Sys2Proof/Machine/Arith16.lean ====
section
/-! DEFINITION. 16-bit arithmetic (R240 to R242). -/

namespace Sys2Proof.Machine

/-- ADD HL,ss (R240): ss is read before HL is written. -/
def addHL (ss : Pair) (s : State) : State :=
  let r := add16 s.hl (s.r16 ss)
  retire 1 11 ({ s with hl := r.1 }.affect r.2)

/-- INC ss (R241). -/
def incPair (ss : Pair) (s : State) : State := retire 1 6 (s.setR16 ss (incWrap (s.r16 ss)))

/-- DEC ss (R242). -/
def decPair (ss : Pair) (s : State) : State := retire 1 6 (s.setR16 ss (decWrap (s.r16 ss)))

/-! ## The instructions -/

/-- ADD HL,BC (R240). -/
def execAdd_HL_BC (s : State) : Result := .next (addHL .BC s)

/-- ADD HL,DE (R240). -/
def execAdd_HL_DE (s : State) : Result := .next (addHL .DE s)

/-- ADD HL,HL (R240). -/
def execAdd_HL_HL (s : State) : Result := .next (addHL .HL s)

/-- ADD HL,SP (R240). -/
def execAdd_HL_SP (s : State) : Result := .next (addHL .SP s)

/-- INC BC (R241). -/
def execInc_BC (s : State) : Result := .next (incPair .BC s)

/-- INC DE (R241). -/
def execInc_DE (s : State) : Result := .next (incPair .DE s)

/-- INC HL (R241). -/
def execInc_HL (s : State) : Result := .next (incPair .HL s)

/-- INC SP (R241). -/
def execInc_SP (s : State) : Result := .next (incPair .SP s)

/-- DEC BC (R242). -/
def execDec_BC (s : State) : Result := .next (decPair .BC s)

/-- DEC DE (R242). -/
def execDec_DE (s : State) : Result := .next (decPair .DE s)

/-- DEC HL (R242). -/
def execDec_HL (s : State) : Result := .next (decPair .HL s)

/-- DEC SP (R242). -/
def execDec_SP (s : State) : Result := .next (decPair .SP s)

end Sys2Proof.Machine
end

