-- ==== Sys2Proof/Machine/Call.lean ====
section
/-! DEFINITION. Calls, returns, restarts (R260 to R264). No flag changes. -/

namespace Sys2Proof.Machine

/-- CALL nn (R260): PC is advanced first, so the address of the next instruction is pushed. -/
def callAt (nn : Word) (s : State) : State := charge 17 (call nn { s with pc := s.pc + 3 })

/-- CALL cc,nn (R261). -/
def callIf (cc : Cond) (nn : Word) (s : State) : State :=
  if s.holds cc then charge 17 (call nn { s with pc := s.pc + 3 }) else retire 3 10 s

/-- RET (R262): the enable bits are not touched (R314). -/
def ret (s : State) : State := returnFrom 10 s

/-- RET cc (R263): not taken, the stack is not read. -/
def retIf (cc : Cond) (s : State) : State := if s.holds cc then returnFrom 11 s else retire 1 5 s

/-- RST p (R264): the Word pushed is pc0 + 1. -/
def restart (t : Fin 8) (s : State) : State := charge 11 (call (rstTarget t) { s with pc := s.pc + 1 })

/-! ## The instructions -/

/-- CALL nn (R260). -/
def execCall_nn (nn : Word) (s : State) : Result := .next (callAt nn s)

/-- CALL NZ,nn (R261). -/
def execCall_NZ_nn (nn : Word) (s : State) : Result := .next (callIf .NZ nn s)

/-- CALL Z,nn (R261). -/
def execCall_Z_nn (nn : Word) (s : State) : Result := .next (callIf .Z nn s)

/-- CALL NC,nn (R261). -/
def execCall_NC_nn (nn : Word) (s : State) : Result := .next (callIf .NC nn s)

/-- CALL C,nn (R261). -/
def execCall_C_nn (nn : Word) (s : State) : Result := .next (callIf .C nn s)

/-- CALL PO,nn (R261). -/
def execCall_PO_nn (nn : Word) (s : State) : Result := .next (callIf .PO nn s)

/-- CALL PE,nn (R261). -/
def execCall_PE_nn (nn : Word) (s : State) : Result := .next (callIf .PE nn s)

/-- CALL P,nn (R261). -/
def execCall_P_nn (nn : Word) (s : State) : Result := .next (callIf .P nn s)

/-- CALL M,nn (R261). -/
def execCall_M_nn (nn : Word) (s : State) : Result := .next (callIf .M nn s)

/-- RET (R262). -/
def execRet (s : State) : Result := .next (ret s)

/-- RET NZ (R263). -/
def execRet_NZ (s : State) : Result := .next (retIf .NZ s)

/-- RET Z (R263). -/
def execRet_Z (s : State) : Result := .next (retIf .Z s)

/-- RET NC (R263). -/
def execRet_NC (s : State) : Result := .next (retIf .NC s)

/-- RET C (R263). -/
def execRet_C (s : State) : Result := .next (retIf .C s)

/-- RET PO (R263). -/
def execRet_PO (s : State) : Result := .next (retIf .PO s)

/-- RET PE (R263). -/
def execRet_PE (s : State) : Result := .next (retIf .PE s)

/-- RET P (R263). -/
def execRet_P (s : State) : Result := .next (retIf .P s)

/-- RET M (R263). -/
def execRet_M (s : State) : Result := .next (retIf .M s)

/-- RST 00H (R264). -/
def execRst_00H (s : State) : Result := .next (restart 0 s)

/-- RST 08H (R264). -/
def execRst_08H (s : State) : Result := .next (restart 1 s)

/-- RST 10H (R264). -/
def execRst_10H (s : State) : Result := .next (restart 2 s)

/-- RST 18H (R264). -/
def execRst_18H (s : State) : Result := .next (restart 3 s)

/-- RST 20H (R264). -/
def execRst_20H (s : State) : Result := .next (restart 4 s)

/-- RST 28H (R264). -/
def execRst_28H (s : State) : Result := .next (restart 5 s)

/-- RST 30H (R264). -/
def execRst_30H (s : State) : Result := .next (restart 6 s)

/-- RST 38H (R264). -/
def execRst_38H (s : State) : Result := .next (restart 7 s)

end Sys2Proof.Machine
end

