-- ==== Sys2Proof/Machine/Exchange.lean ====
section
/-! DEFINITION. Exchanges (R177 to R180). -/

namespace Sys2Proof.Machine

/-- EX DE,HL (R177). -/
def exchangeDEHL (s : State) : State := retire 1 4 { s with de := s.hl, hl := s.de }

/-- EX AF,AF′ (R178). -/
def exchangeAF (s : State) : State := retire 1 4 { s with af := s.af', af' := s.af }

/-- EXX (R179): AF and AF′ are not exchanged. -/
def exchangeAll (s : State) : State :=
  retire 1 4 { s with bc := s.bc', bc' := s.bc, de := s.de', de' := s.de, hl := s.hl', hl' := s.hl }

/-- EX (SP),HL (R180): read low, read high, write low, write high; SP stays. -/
def exchangeStack (s : State) : State :=
  let t := busReadWord s.sp s
  let w := busWriteWord s.sp s.hl t.2
  retire 1 19 { w with hl := t.1 }

/-! ## The instructions -/

/-- EX DE,HL (R177). -/
def execEx_DE_HL (s : State) : Result := .next (exchangeDEHL s)

/-- EX AF,AF' (R178). -/
def execEx_AF_AFalt (s : State) : Result := .next (exchangeAF s)

/-- EXX (R179). -/
def execExx (s : State) : Result := .next (exchangeAll s)

/-- EX (SP),HL (R180). -/
def execEx_mSP_HL (s : State) : Result := .next (exchangeStack s)

end Sys2Proof.Machine
end

