-- ==== Sys2Proof/Machine/IncDec8.lean ====
section
/-! DEFINITION. 8-bit increment and decrement (R210 to R213). -/

namespace Sys2Proof.Machine

/-- INC r (R210). -/
def incReg (r : Reg8) (s : State) : State :=
  let x := inc8 (s.r8 r)
  retire 1 4 ((s.setR8 r x.1).affect x.2)

/-- INC (HL) (R211): one read, then one write at the same address. -/
def incMem (s : State) : State :=
  let v := busRead s.hl s
  let x := inc8 v.1
  retire 1 11 ((busWrite s.hl x.1 v.2).affect x.2)

/-- DEC r (R212). -/
def decReg (r : Reg8) (s : State) : State :=
  let x := dec8 (s.r8 r)
  retire 1 4 ((s.setR8 r x.1).affect x.2)

/-- DEC (HL) (R213). -/
def decMem (s : State) : State :=
  let v := busRead s.hl s
  let x := dec8 v.1
  retire 1 11 ((busWrite s.hl x.1 v.2).affect x.2)

/-! ## The instructions -/

/-- INC B (R210). -/
def execInc_B (s : State) : Result := .next (incReg .B s)

/-- INC C (R210). -/
def execInc_C (s : State) : Result := .next (incReg .C s)

/-- INC D (R210). -/
def execInc_D (s : State) : Result := .next (incReg .D s)

/-- INC E (R210). -/
def execInc_E (s : State) : Result := .next (incReg .E s)

/-- INC H (R210). -/
def execInc_H (s : State) : Result := .next (incReg .H s)

/-- INC L (R210). -/
def execInc_L (s : State) : Result := .next (incReg .L s)

/-- INC A (R210). -/
def execInc_A (s : State) : Result := .next (incReg .A s)

/-- INC (HL) (R211). -/
def execInc_mHL (s : State) : Result := .next (incMem s)

/-- DEC B (R212). -/
def execDec_B (s : State) : Result := .next (decReg .B s)

/-- DEC C (R212). -/
def execDec_C (s : State) : Result := .next (decReg .C s)

/-- DEC D (R212). -/
def execDec_D (s : State) : Result := .next (decReg .D s)

/-- DEC E (R212). -/
def execDec_E (s : State) : Result := .next (decReg .E s)

/-- DEC H (R212). -/
def execDec_H (s : State) : Result := .next (decReg .H s)

/-- DEC L (R212). -/
def execDec_L (s : State) : Result := .next (decReg .L s)

/-- DEC A (R212). -/
def execDec_A (s : State) : Result := .next (decReg .A s)

/-- DEC (HL) (R213). -/
def execDec_mHL (s : State) : Result := .next (decMem s)

end Sys2Proof.Machine
end

