-- ==== Sys2Proof/Machine/Jump.lean ====
section
/-! DEFINITION. Jumps (R254 to R259). No flag changes. -/

namespace Sys2Proof.Machine

/-- JP nn (R254): PC is assigned, not advanced. -/
def jump (nn : Word) (s : State) : State := jumpTo nn 10 s

/-- JP cc,nn (R255): the same cost either way. -/
def jumpIf (cc : Cond) (nn : Word) (s : State) : State := if s.holds cc then jumpTo nn 10 s else retire 3 10 s

/-- JP (HL) (R256): HL as a value; memory is not read. -/
def jumpHL (s : State) : State := jumpTo s.hl 4 s

/-- JR e (R257). -/
def jumpRel (e : Octet) (s : State) : State := jumpTo (relTarget s.pc e) 12 s

/-- JR cc,e (R258). -/
def jumpRelIf (cc : ShortCond) (e : Octet) (s : State) : State :=
  if s.holds cc.toCond then jumpTo (relTarget s.pc e) 12 s else retire 2 7 s

/-- DJNZ e (R259): B counts down without touching a flag. -/
def decJumpRel (e : Octet) (s : State) : State :=
  let b := decWrap (s.r8 .B)
  let t := s.setR8 .B b
  if b != 0 then jumpTo (relTarget s.pc e) 13 t else retire 2 8 t

/-! ## The instructions -/

/-- JP nn (R254). -/
def execJp_nn (nn : Word) (s : State) : Result := .next (jump nn s)

/-- JP NZ,nn (R255). -/
def execJp_NZ_nn (nn : Word) (s : State) : Result := .next (jumpIf .NZ nn s)

/-- JP Z,nn (R255). -/
def execJp_Z_nn (nn : Word) (s : State) : Result := .next (jumpIf .Z nn s)

/-- JP NC,nn (R255). -/
def execJp_NC_nn (nn : Word) (s : State) : Result := .next (jumpIf .NC nn s)

/-- JP C,nn (R255). -/
def execJp_C_nn (nn : Word) (s : State) : Result := .next (jumpIf .C nn s)

/-- JP PO,nn (R255). -/
def execJp_PO_nn (nn : Word) (s : State) : Result := .next (jumpIf .PO nn s)

/-- JP PE,nn (R255). -/
def execJp_PE_nn (nn : Word) (s : State) : Result := .next (jumpIf .PE nn s)

/-- JP P,nn (R255). -/
def execJp_P_nn (nn : Word) (s : State) : Result := .next (jumpIf .P nn s)

/-- JP M,nn (R255). -/
def execJp_M_nn (nn : Word) (s : State) : Result := .next (jumpIf .M nn s)

/-- JP (HL) (R256). -/
def execJp_HL (s : State) : Result := .next (jumpHL s)

/-- JR e (R257). -/
def execJr_e (e : Octet) (s : State) : Result := .next (jumpRel e s)

/-- JR NZ,e (R258). -/
def execJr_NZ_e (e : Octet) (s : State) : Result := .next (jumpRelIf .NZ e s)

/-- JR Z,e (R258). -/
def execJr_Z_e (e : Octet) (s : State) : Result := .next (jumpRelIf .Z e s)

/-- JR NC,e (R258). -/
def execJr_NC_e (e : Octet) (s : State) : Result := .next (jumpRelIf .NC e s)

/-- JR C,e (R258). -/
def execJr_C_e (e : Octet) (s : State) : Result := .next (jumpRelIf .C e s)

/-- DJNZ e (R259). -/
def execDjnz_e (e : Octet) (s : State) : Result := .next (decJumpRel e s)

end Sys2Proof.Machine
end

