-- ==== Sys2Proof/Machine/Load16.lean ====
section
/-! DEFINITION. 16-bit loads, PUSH and POP (R171 to R176). No flag changes but by POP AF. -/

namespace Sys2Proof.Machine

/-- LD dd,nn (R171). -/
def loadPairImm (dd : Pair) (nn : Word) (s : State) : State := retire 3 10 (s.setR16 dd nn)

/-- LD HL,(nn) (R172). -/
def loadHLFrom (nn : Word) (s : State) : State :=
  let w := busReadWord nn s
  retire 3 16 { w.2 with hl := w.1 }

/-- LD (nn),HL (R173). -/
def storeHLAt (nn : Word) (s : State) : State := retire 3 16 (busWriteWord nn s.hl s)

/-- LD SP,HL (R174). -/
def loadSPHL (s : State) : State := retire 1 6 { s with sp := s.hl }

/-- PUSH qq (R175). -/
def pushPair (qq : StackPair) (s : State) : State := retire 1 11 (push (s.rqq qq) s)

/-- POP qq (R176): POP AF loads all eight flags. -/
def popPair (qq : StackPair) (s : State) : State :=
  let w := pop s
  retire 1 10 (w.2.setRqq qq w.1)

/-! ## The instructions -/

/-- LD BC,nn (R171). -/
def execLd_BC_nn (nn : Word) (s : State) : Result := .next (loadPairImm .BC nn s)

/-- LD DE,nn (R171). -/
def execLd_DE_nn (nn : Word) (s : State) : Result := .next (loadPairImm .DE nn s)

/-- LD HL,nn (R171). -/
def execLd_HL_nn (nn : Word) (s : State) : Result := .next (loadPairImm .HL nn s)

/-- LD SP,nn (R171). -/
def execLd_SP_nn (nn : Word) (s : State) : Result := .next (loadPairImm .SP nn s)

/-- LD HL,(nn) (R172). -/
def execLd_HL_mNN (nn : Word) (s : State) : Result := .next (loadHLFrom nn s)

/-- LD (nn),HL (R173). -/
def execLd_mNN_HL (nn : Word) (s : State) : Result := .next (storeHLAt nn s)

/-- LD SP,HL (R174). -/
def execLd_SP_HL (s : State) : Result := .next (loadSPHL s)

/-- PUSH BC (R175). -/
def execPush_BC (s : State) : Result := .next (pushPair .BC s)

/-- PUSH DE (R175). -/
def execPush_DE (s : State) : Result := .next (pushPair .DE s)

/-- PUSH HL (R175). -/
def execPush_HL (s : State) : Result := .next (pushPair .HL s)

/-- PUSH AF (R175). -/
def execPush_AF (s : State) : Result := .next (pushPair .AF s)

/-- POP BC (R176). -/
def execPop_BC (s : State) : Result := .next (popPair .BC s)

/-- POP DE (R176). -/
def execPop_DE (s : State) : Result := .next (popPair .DE s)

/-- POP HL (R176). -/
def execPop_HL (s : State) : Result := .next (popPair .HL s)

/-- POP AF (R176). -/
def execPop_AF (s : State) : Result := .next (popPair .AF s)

end Sys2Proof.Machine
end

