-- ==== Sys2Proof/Machine/Load8.lean ====
section
/-! DEFINITION. 8-bit loads (R160 to R170). No flag changes. -/

namespace Sys2Proof.Machine

/-- LD r,r′ (R160). -/
def loadReg (d r : Reg8) (s : State) : State := retire 1 4 (s.setR8 d (s.r8 r))

/-- LD r,n (R161). -/
def loadRegImm (d : Reg8) (n : Octet) (s : State) : State := retire 2 7 (s.setR8 d n)

/-- LD r,(HL) (R162): the address is the HL of before the load. -/
def loadRegMem (d : Reg8) (s : State) : State :=
  let v := busRead s.hl s
  retire 1 7 (v.2.setR8 d v.1)

/-- LD (HL),r (R163). -/
def storeReg (r : Reg8) (s : State) : State := retire 1 7 (busWrite s.hl (s.r8 r) s)

/-- LD (HL),n (R164). -/
def storeImm (n : Octet) (s : State) : State := retire 2 10 (busWrite s.hl n s)

/-- LD A,(BC) and LD A,(DE) (R165, R166). -/
def loadA (p : Pointer) (s : State) : State :=
  let v := busRead (s.pointer p) s
  retire 1 7 (v.2.setR8 .A v.1)

/-- LD A,(nn) (R167). -/
def loadAFrom (nn : Word) (s : State) : State :=
  let v := busRead nn s
  retire 3 13 (v.2.setR8 .A v.1)

/-- LD (BC),A and LD (DE),A (R168, R169). -/
def storeA (p : Pointer) (s : State) : State := retire 1 7 (busWrite (s.pointer p) s.a s)

/-- LD (nn),A (R170). -/
def storeAAt (nn : Word) (s : State) : State := retire 3 13 (busWrite nn s.a s)

/-! ## The instructions -/

/-- LD B,B (R160). -/
def execLd_B_B (s : State) : Result := .next (loadReg .B .B s)

/-- LD B,C (R160). -/
def execLd_B_C (s : State) : Result := .next (loadReg .B .C s)

/-- LD B,D (R160). -/
def execLd_B_D (s : State) : Result := .next (loadReg .B .D s)

/-- LD B,E (R160). -/
def execLd_B_E (s : State) : Result := .next (loadReg .B .E s)

/-- LD B,H (R160). -/
def execLd_B_H (s : State) : Result := .next (loadReg .B .H s)

/-- LD B,L (R160). -/
def execLd_B_L (s : State) : Result := .next (loadReg .B .L s)

/-- LD B,A (R160). -/
def execLd_B_A (s : State) : Result := .next (loadReg .B .A s)

/-- LD C,B (R160). -/
def execLd_C_B (s : State) : Result := .next (loadReg .C .B s)

/-- LD C,C (R160). -/
def execLd_C_C (s : State) : Result := .next (loadReg .C .C s)

/-- LD C,D (R160). -/
def execLd_C_D (s : State) : Result := .next (loadReg .C .D s)

/-- LD C,E (R160). -/
def execLd_C_E (s : State) : Result := .next (loadReg .C .E s)

/-- LD C,H (R160). -/
def execLd_C_H (s : State) : Result := .next (loadReg .C .H s)

/-- LD C,L (R160). -/
def execLd_C_L (s : State) : Result := .next (loadReg .C .L s)

/-- LD C,A (R160). -/
def execLd_C_A (s : State) : Result := .next (loadReg .C .A s)

/-- LD D,B (R160). -/
def execLd_D_B (s : State) : Result := .next (loadReg .D .B s)

/-- LD D,C (R160). -/
def execLd_D_C (s : State) : Result := .next (loadReg .D .C s)

/-- LD D,D (R160). -/
def execLd_D_D (s : State) : Result := .next (loadReg .D .D s)

/-- LD D,E (R160). -/
def execLd_D_E (s : State) : Result := .next (loadReg .D .E s)

/-- LD D,H (R160). -/
def execLd_D_H (s : State) : Result := .next (loadReg .D .H s)

/-- LD D,L (R160). -/
def execLd_D_L (s : State) : Result := .next (loadReg .D .L s)

/-- LD D,A (R160). -/
def execLd_D_A (s : State) : Result := .next (loadReg .D .A s)

/-- LD E,B (R160). -/
def execLd_E_B (s : State) : Result := .next (loadReg .E .B s)

/-- LD E,C (R160). -/
def execLd_E_C (s : State) : Result := .next (loadReg .E .C s)

/-- LD E,D (R160). -/
def execLd_E_D (s : State) : Result := .next (loadReg .E .D s)

/-- LD E,E (R160). -/
def execLd_E_E (s : State) : Result := .next (loadReg .E .E s)

/-- LD E,H (R160). -/
def execLd_E_H (s : State) : Result := .next (loadReg .E .H s)

/-- LD E,L (R160). -/
def execLd_E_L (s : State) : Result := .next (loadReg .E .L s)

/-- LD E,A (R160). -/
def execLd_E_A (s : State) : Result := .next (loadReg .E .A s)

/-- LD H,B (R160). -/
def execLd_H_B (s : State) : Result := .next (loadReg .H .B s)

/-- LD H,C (R160). -/
def execLd_H_C (s : State) : Result := .next (loadReg .H .C s)

/-- LD H,D (R160). -/
def execLd_H_D (s : State) : Result := .next (loadReg .H .D s)

/-- LD H,E (R160). -/
def execLd_H_E (s : State) : Result := .next (loadReg .H .E s)

/-- LD H,H (R160). -/
def execLd_H_H (s : State) : Result := .next (loadReg .H .H s)

/-- LD H,L (R160). -/
def execLd_H_L (s : State) : Result := .next (loadReg .H .L s)

/-- LD H,A (R160). -/
def execLd_H_A (s : State) : Result := .next (loadReg .H .A s)

/-- LD L,B (R160). -/
def execLd_L_B (s : State) : Result := .next (loadReg .L .B s)

/-- LD L,C (R160). -/
def execLd_L_C (s : State) : Result := .next (loadReg .L .C s)

/-- LD L,D (R160). -/
def execLd_L_D (s : State) : Result := .next (loadReg .L .D s)

/-- LD L,E (R160). -/
def execLd_L_E (s : State) : Result := .next (loadReg .L .E s)

/-- LD L,H (R160). -/
def execLd_L_H (s : State) : Result := .next (loadReg .L .H s)

/-- LD L,L (R160). -/
def execLd_L_L (s : State) : Result := .next (loadReg .L .L s)

/-- LD L,A (R160). -/
def execLd_L_A (s : State) : Result := .next (loadReg .L .A s)

/-- LD A,B (R160). -/
def execLd_A_B (s : State) : Result := .next (loadReg .A .B s)

/-- LD A,C (R160). -/
def execLd_A_C (s : State) : Result := .next (loadReg .A .C s)

/-- LD A,D (R160). -/
def execLd_A_D (s : State) : Result := .next (loadReg .A .D s)

/-- LD A,E (R160). -/
def execLd_A_E (s : State) : Result := .next (loadReg .A .E s)

/-- LD A,H (R160). -/
def execLd_A_H (s : State) : Result := .next (loadReg .A .H s)

/-- LD A,L (R160). -/
def execLd_A_L (s : State) : Result := .next (loadReg .A .L s)

/-- LD A,A (R160). -/
def execLd_A_A (s : State) : Result := .next (loadReg .A .A s)

/-- LD B,n (R161). -/
def execLd_B_n (n : Octet) (s : State) : Result := .next (loadRegImm .B n s)

/-- LD C,n (R161). -/
def execLd_C_n (n : Octet) (s : State) : Result := .next (loadRegImm .C n s)

/-- LD D,n (R161). -/
def execLd_D_n (n : Octet) (s : State) : Result := .next (loadRegImm .D n s)

/-- LD E,n (R161). -/
def execLd_E_n (n : Octet) (s : State) : Result := .next (loadRegImm .E n s)

/-- LD H,n (R161). -/
def execLd_H_n (n : Octet) (s : State) : Result := .next (loadRegImm .H n s)

/-- LD L,n (R161). -/
def execLd_L_n (n : Octet) (s : State) : Result := .next (loadRegImm .L n s)

/-- LD A,n (R161). -/
def execLd_A_n (n : Octet) (s : State) : Result := .next (loadRegImm .A n s)

/-- LD B,(HL) (R162). -/
def execLd_B_mHL (s : State) : Result := .next (loadRegMem .B s)

/-- LD C,(HL) (R162). -/
def execLd_C_mHL (s : State) : Result := .next (loadRegMem .C s)

/-- LD D,(HL) (R162). -/
def execLd_D_mHL (s : State) : Result := .next (loadRegMem .D s)

/-- LD E,(HL) (R162). -/
def execLd_E_mHL (s : State) : Result := .next (loadRegMem .E s)

/-- LD H,(HL) (R162). -/
def execLd_H_mHL (s : State) : Result := .next (loadRegMem .H s)

/-- LD L,(HL) (R162). -/
def execLd_L_mHL (s : State) : Result := .next (loadRegMem .L s)

/-- LD A,(HL) (R162). -/
def execLd_A_mHL (s : State) : Result := .next (loadRegMem .A s)

/-- LD (HL),B (R163). -/
def execLd_mHL_B (s : State) : Result := .next (storeReg .B s)

/-- LD (HL),C (R163). -/
def execLd_mHL_C (s : State) : Result := .next (storeReg .C s)

/-- LD (HL),D (R163). -/
def execLd_mHL_D (s : State) : Result := .next (storeReg .D s)

/-- LD (HL),E (R163). -/
def execLd_mHL_E (s : State) : Result := .next (storeReg .E s)

/-- LD (HL),H (R163). -/
def execLd_mHL_H (s : State) : Result := .next (storeReg .H s)

/-- LD (HL),L (R163). -/
def execLd_mHL_L (s : State) : Result := .next (storeReg .L s)

/-- LD (HL),A (R163). -/
def execLd_mHL_A (s : State) : Result := .next (storeReg .A s)

/-- LD (HL),n (R164). -/
def execLd_mHL_n (n : Octet) (s : State) : Result := .next (storeImm n s)

/-- LD A,(BC) (R165). -/
def execLd_A_mBC (s : State) : Result := .next (loadA .BC s)

/-- LD A,(DE) (R166). -/
def execLd_A_mDE (s : State) : Result := .next (loadA .DE s)

/-- LD A,(nn) (R167). -/
def execLd_A_mNN (nn : Word) (s : State) : Result := .next (loadAFrom nn s)

/-- LD (BC),A (R168). -/
def execLd_mBC_A (s : State) : Result := .next (storeA .BC s)

/-- LD (DE),A (R169). -/
def execLd_mDE_A (s : State) : Result := .next (storeA .DE s)

/-- LD (nn),A (R170). -/
def execLd_mNN_A (nn : Word) (s : State) : Result := .next (storeAAt nn s)

end Sys2Proof.Machine
end

