-- ==== Sys2Proof/Machine/Rotate.lean ====
section
/-! DEFINITION. Accumulator rotates, DAA, CPL, SCF, CCF (R214 to R221). -/

namespace Sys2Proof.Machine

/-- A rotate of the accumulator (R214 to R217) by `rot`, a function of A and of the flag C of before. -/
def rotateA (rot : Octet → Bool → Octet × Bool) (s : State) : State :=
  let r := rot s.a (s.flag maskC)
  retire 1 4 ((s.setR8 .A r.1).affect (rotateFlags r.1 r.2))

/-- DAA (R218). -/
def decimalAdjust (s : State) : State :=
  let r := daa s.a (s.flag maskH) (s.flag maskN) (s.flag maskC)
  retire 1 4 ((s.setR8 .A r.1).affect r.2)

/-- CPL (R219). -/
def complementA (s : State) : State :=
  let res := s.a ^^^ 0xFF
  retire 1 4 ((s.setR8 .A res).affect (cplFlags res))

/-- SCF (R220). -/
def setCarry (s : State) : State := retire 1 4 (s.affect (scfFlags s.a))

/-- CCF (R221). -/
def complementCarry (s : State) : State := retire 1 4 (s.affect (ccfFlags s.a (s.flag maskC)))

/-! ## The instructions -/

/-- RLCA (R214). -/
def execRlca (s : State) : Result := .next (rotateA (fun a _ => rotLeftCircular a) s)

/-- RRCA (R215). -/
def execRrca (s : State) : Result := .next (rotateA (fun a _ => rotRightCircular a) s)

/-- RLA (R216). -/
def execRla (s : State) : Result := .next (rotateA rotLeftCarry s)

/-- RRA (R217). -/
def execRra (s : State) : Result := .next (rotateA rotRightCarry s)

/-- DAA (R218). -/
def execDaa (s : State) : Result := .next (decimalAdjust s)

/-- CPL (R219). -/
def execCpl (s : State) : Result := .next (complementA s)

/-- SCF (R220). -/
def execScf (s : State) : Result := .next (setCarry s)

/-- CCF (R221). -/
def execCcf (s : State) : Result := .next (complementCarry s)

end Sys2Proof.Machine
end

