-- ==== Sys2Proof/Machine/System.lean ====
section
/-! DEFINITION. NOP, EI, DI and the Illegal sentinel (R280 to R283). -/

namespace Sys2Proof.Machine

/-- NOP (R280). -/
def nop (s : State) : State := retire 1 4 s

/-- EI (R281): enable, and hold INT off for one instruction. -/
def enableInt (s : State) : State := retire 1 4 { s with iff1 := true, iff2 := true, eiFF := true }

/-- DI (R282): EI_FF is not written. -/
def disableInt (s : State) : State := retire 1 4 { s with iff1 := false, iff2 := false }

/-! ## The instructions -/

/-- NOP (R280). -/
def execNop (s : State) : Result := .next (nop s)

/-- EI (R281). -/
def execEi (s : State) : Result := .next (enableInt s)

/-- DI (R282). -/
def execDi (s : State) : Result := .next (disableInt s)

/-- The Illegal sentinel (R283): the IllegalOpcode fault, with the state as it stands (R310). -/
def execIllegal (op : Octet) (s : State) : Result := .fault (.illegalOpcode op s)

end Sys2Proof.Machine
end

