-- ==== Sys2Proof/Machine/Arbitration.lean ====
section
/-! DEFINITION. The four stages of a step (R300): reset, NMI, maskable interrupt, fetch-decode-execute. -/

namespace Sys2Proof.Machine

/-! ## Fetch (R93 to R96) -/

/-- Complete the instruction whose opcode octet is `op`: decode it and read its immediates from memory at `pc0 + 1`
(and `pc0 + 2`), in ascending address order. PC does not move (R99). -/
def completeFetch (op : Octet) (s : State) : Instr × State :=
  match dispatch op with
  | .op i => (i, s)
  | .opN f => (f (busRead (s.pc + 1) s).1, (busRead (s.pc + 1) s).2)
  | .opE f => (f (busRead (s.pc + 1) s).1, (busRead (s.pc + 1) s).2)
  | .opNN f => (f (busReadWord (s.pc + 1) s).1, (busReadWord (s.pc + 1) s).2)

/-- `Execute(DISPATCH[op])` (R300) with `pc0` the PC of the state. -/
def executeOpcode (op : Octet) (s : State) : Result :=
  exec (completeFetch op s).1 (completeFetch op s).2

/-- Charge `n` more T-cycles to a completed execution; a fault charges nothing (R306, R310). -/
def surcharge (n : BitVec 64) : Result → Result
  | .next t => .next (charge n t)
  | .fault r => .fault r
  | .refused r => .refused r

/-! ## The stages -/

/-- Stage 1 (R301): reset the bank, clear the request; no cycles, no fetch. -/
def resetStage (s : State) : State := { resetRegisterBank s with resetReq := false }

/-- Stage 2 (R302): clear IFF1 only, call 0x0066, clear NMI_FF, 11 T-cycles; EI_FF is not touched (D31). -/
def nmiStage (s : State) : State := enterHandler nmiVector 11 { s with iff1 := false, nmiFF := false }

/-- The acceptance condition of stage 3 (R303). -/
def intAccepted (s : State) : Bool := s.intFF && s.iff1 && !s.eiFF

/-- Stage 3 with an accepted interrupt (R304): clear IFF1 and IFF2, acknowledge once, then by mode (R306, R307, R308). -/
def intStage (s : State) : Result :=
  let r := intAck { s with iff1 := false, iff2 := false }
  match s.im with
  | .im0 => surcharge 2 (executeOpcode r.1 r.2)
  | .im1 => .next (enterHandler int1Vector 13 r.2)
  | .im2 => .next (enterHandler (mkWord s.i r.1) 19 r.2)

/-- Stage 3 without acceptance (R305), then stage 4 (R309): clear EI_FF, fetch at PC, execute. -/
def instructionStage (s : State) : Result :=
  let r := busRead s.pc { s with eiFF := false }
  executeOpcode r.1 r.2

/-- The record of bus operations starts anew with each step (log entry 8). -/
def startStep (s : State) : State := { s with trace := [] }

/-- One step (R300, R313): the first stage in priority order whose condition holds. -/
def arbitrate (s : State) : Result :=
  if s.resetReq then .next (resetStage (startStep s))
  else if s.nmiFF then .next (nmiStage (startStep s))
  else if intAccepted s then intStage (startStep s)
  else instructionStage (startStep s)

/-! ## Placing an instruction where the next step fetches -/

/-- The octet stored without a bus operation. -/
def storeByte (a : Word) (v : Octet) (s : State) : State := { s with mem := Memory.put s.mem a v }

/-- No event stands before the next fetch: no reset request, no NMI, and an INT that would be accepted is held off for this one
step by EI_FF (log entry 9). -/
def noEventPending (s : State) : State :=
  { s with resetReq := false, nmiFF := false, eiFF := s.eiFF || (s.intFF && s.iff1) }

/-- Every pending answer for `a` withdrawn: the next reads of `a` return what memory holds. -/
def withdrawAnswers (a : Word) (s : State) : State :=
  { s with busAnswers := s.busAnswers.filter (fun p => decide (p.1 ≠ a)) }

/-- One octet of a program placed at `a`: stored, and no other answer pending there. -/
def placeByte (a : Word) (v : Octet) (s : State) : State := withdrawAnswers a (storeByte a v s)

/-- The first three bytes of a table word placed at PC, PC + 1, PC + 2, and no event before the fetch. -/
def placeWord (nbits w : Nat) (s : State) : State :=
  let v := w % 2 ^ nbits
  noEventPending
    (placeByte (s.pc + 2) (tableByte v 2) (placeByte (s.pc + 1) (tableByte v 1) (placeByte s.pc (tableByte v 0) s)))

end Sys2Proof.Machine
end

