-- ==== Sys2Proof/Machine/Step.lean ====
section
/-! DEFINITION. The step (R300) and the placing of an instruction where the next step fetches it. -/

namespace Sys2Proof.Machine

/-- `Step` (R300). -/
def step : State → Host.Outcome State Fault Refusal := fun s => arbitrate s

/-- `s` with the instruction of a table word where the next step fetches, nothing before it (log entry 9). -/
def State.withFetchWord (s : State) (nbits w : Nat) : State := placeWord nbits w s

end Sys2Proof.Machine
end

