-- ==== Sys2Proof/Machine/Environment.lean ====
section
/-! DEFINITION. What the outside world can do between steps (60_exceptions.md section 5, R44, R61): the host's operations, register
access, and the Bus side (other users of the memory, acknowledge octets). -/

namespace Sys2Proof.Machine

/-! ## Host operations -/

/-- `requestReset()` (R321). -/
def requestReset (s : State) : State := { s with resetReq := true }

/-- `setNmiLine(b)` (R322): a rising edge sets NMI_FF. -/
def setNmiLine (b : Bool) (s : State) : State :=
  { s with nmiFF := s.nmiFF || (b && !s.nmiLine), nmiLine := b }

/-- `setIntLine(b)` (R323): level-sensed. -/
def setIntLine (b : Bool) (s : State) : State := { s with intLine := b, intFF := b }

/-- `reset()` (R324): at once, no cycles; RESET_REQ is left as it was (D21). -/
def hostReset (s : State) : State := resetRegisterBank s

/-- `totalCycles()` (R325). -/
def totalCycles (s : State) : BitVec 64 := s.cycles

/-- `resetCycles()` (R326). -/
def resetCycles (s : State) : State := { s with cycles := 0 }

/-! ## Register access (R44, R327) -/

/-- The host writes a primary pair. -/
def writePair (q : StackPair) (w : Word) (s : State) : State := s.setRqq q w

/-- The host reads a shadow pair. -/
def readShadow (s : State) : StackPair → Word
  | .BC => s.bc'
  | .DE => s.de'
  | .HL => s.hl'
  | .AF => s.af'

/-- The host writes a shadow pair. -/
def writeShadow (s : State) : StackPair → Word → State
  | .BC, w => { s with bc' := w }
  | .DE, w => { s with de' := w }
  | .HL, w => { s with hl' := w }
  | .AF, w => { s with af' := w }

/-- One move of the environment. Reads change nothing and are functions of the state (`State.r8`, `totalCycles` and so on). A value of
IM other than 0, 1, 2 cannot be written (R41, U8). -/
inductive EnvMove where
  | requestReset
  | setNmiLine (b : Bool)
  | setIntLine (b : Bool)
  | reset
  | resetCycles
  | writeReg (r : Reg8) (v : Octet)
  | writeF (v : Octet)
  | writePair (q : StackPair) (w : Word)
  | writeShadow (q : StackPair) (w : Word)
  | writePC (w : Word)
  | writeSP (w : Word)
  | writeI (v : Octet)
  | writeIFF1 (b : Bool)
  | writeIFF2 (b : Bool)
  | writeNmiFF (b : Bool)
  | writeIntFF (b : Bool)
  | writeEiFF (b : Bool)
  | writeIM (m : IntMode)
  /-- Another user of the Bus, or the loader, stores an octet (R61, R72). -/
  | busStore (a : Word) (v : Octet)
  /-- The environment makes ready the octet that a later read of `a` returns, whatever memory holds there (R61, R73, R75; log entry 4). -/
  | supplyRead (a : Word) (v : Octet)
  /-- A device makes ready the octet of a later acknowledge (R64, R332). -/
  | supplyAck (v : Octet)
  deriving DecidableEq, Repr

/-- The state after an environment move. -/
def applyMove (m : EnvMove) (s : State) : State :=
  match m with
  | .requestReset => requestReset s
  | .setNmiLine b => setNmiLine b s
  | .setIntLine b => setIntLine b s
  | .reset => hostReset s
  | .resetCycles => resetCycles s
  | .writeReg r v => s.setR8 r v
  | .writeF v => s.setF v
  | .writePair q w => writePair q w s
  | .writeShadow q w => writeShadow s q w
  | .writePC w => { s with pc := w }
  | .writeSP w => { s with sp := w }
  | .writeI v => { s with i := v }
  | .writeIFF1 b => { s with iff1 := b }
  | .writeIFF2 b => { s with iff2 := b }
  | .writeNmiFF b => { s with nmiFF := b }
  | .writeIntFF b => { s with intFF := b }
  | .writeEiFF b => { s with eiFF := b }
  | .writeIM k => { s with im := k }
  | .busStore a v => storeByte a v s
  | .supplyRead a v => { s with busAnswers := s.busAnswers ++ [(a, v)] }
  | .supplyAck v => { s with ackQueue := s.ackQueue ++ [v] }

/-! ## Runs: steps with environment moves between them (R5, D24) -/

/-- What happens at a step boundary. -/
inductive Event where
  | step
  | move (m : EnvMove)
  deriving DecidableEq, Repr

/-- Where the core stands after a step: after a fault, the state the fault reports, from which the host may step again (D30). -/
def stepOrFault (s : State) : State :=
  match step s with
  | .next t => t
  | .fault (.illegalOpcode _ t) => t
  | .refused _ => s

/-- The state after one event. -/
def applyEvent (e : Event) (s : State) : State :=
  match e with
  | .step => stepOrFault s
  | .move m => applyMove m s

/-- The state after a sequence of events, first event first. -/
def runEvents : List Event → State → State
  | [], s => s
  | e :: es, s => runEvents es (applyEvent e s)

end Sys2Proof.Machine
end

