-- ==== Sys2Proof/Machine/Forms.lean ====
section
/-! DEFINITION. The instruction forms of R106: one constructor for each line of its list, with its operand fields, and the instruction
that a form with its fields is. Statements and tables over all instructions are written by form. -/

namespace Sys2Proof.Machine

/-- The eight accumulator operations in the order of R104. -/
inductive AluOp where
  | add
  | adc
  | sub
  | sbc
  | and
  | xor
  | or
  | cp
  deriving DecidableEq, Repr

def AluOp.code : AluOp → Octet
  | .add => 0
  | .adc => 1
  | .sub => 2
  | .sbc => 3
  | .and => 4
  | .xor => 5
  | .or => 6
  | .cp => 7

/-- The four accumulator rotates in the order of their codes (R106: `00 0yy 111`). -/
inductive Rotation where
  | rlca
  | rrca
  | rla
  | rra
  deriving DecidableEq, Repr

def Rotation.code : Rotation → Octet
  | .rlca => 0
  | .rrca => 1
  | .rla => 2
  | .rra => 3

def ShortCond.code : ShortCond → Octet
  | .NZ => 0
  | .Z => 1
  | .NC => 2
  | .C => 3

def Pointer.code : Pointer → Octet
  | .BC => 0
  | .DE => 1

/-- A line of the list of R106 with its fields. -/
inductive Form where
  | nop
  | exAF
  | djnz (e : Octet)
  | jr (e : Octet)
  | jrIf (cc : ShortCond) (e : Octet)
  | ldPairImm (dd : Pair) (nn : Word)
  | addHL (ss : Pair)
  | storeA (p : Pointer)
  | loadA (p : Pointer)
  | storeHLAt (nn : Word)
  | loadHLFrom (nn : Word)
  | storeAAt (nn : Word)
  | loadAFrom (nn : Word)
  | incPair (ss : Pair)
  | decPair (ss : Pair)
  | incReg (r : Reg8)
  | incMem
  | decReg (r : Reg8)
  | decMem
  | ldRegImm (r : Reg8) (n : Octet)
  | storeImm (n : Octet)
  | rotate (k : Rotation)
  | daa
  | cpl
  | scf
  | ccf
  | ldReg (d r : Reg8)
  | ldRegMem (d : Reg8)
  | storeReg (r : Reg8)
  | alu (op : AluOp) (src : AluSource)
  | retIf (cc : Cond)
  | pop (qq : StackPair)
  | ret
  | exx
  | jpHL
  | ldSPHL
  | jpIf (cc : Cond) (nn : Word)
  | jp (nn : Word)
  | exStack
  | exDEHL
  | di
  | ei
  | callIf (cc : Cond) (nn : Word)
  | push (qq : StackPair)
  | callAt (nn : Word)
  | rst (t : Fin 8)
  | illegal (op : Octet)
  deriving DecidableEq, Repr

/-- LD r,r′ by its two register fields (R160). -/
def ldRegOf : Reg8 → Reg8 → Instr
  | .B, .B => .ld_B_B
  | .B, .C => .ld_B_C
  | .B, .D => .ld_B_D
  | .B, .E => .ld_B_E
  | .B, .H => .ld_B_H
  | .B, .L => .ld_B_L
  | .B, .A => .ld_B_A
  | .C, .B => .ld_C_B
  | .C, .C => .ld_C_C
  | .C, .D => .ld_C_D
  | .C, .E => .ld_C_E
  | .C, .H => .ld_C_H
  | .C, .L => .ld_C_L
  | .C, .A => .ld_C_A
  | .D, .B => .ld_D_B
  | .D, .C => .ld_D_C
  | .D, .D => .ld_D_D
  | .D, .E => .ld_D_E
  | .D, .H => .ld_D_H
  | .D, .L => .ld_D_L
  | .D, .A => .ld_D_A
  | .E, .B => .ld_E_B
  | .E, .C => .ld_E_C
  | .E, .D => .ld_E_D
  | .E, .E => .ld_E_E
  | .E, .H => .ld_E_H
  | .E, .L => .ld_E_L
  | .E, .A => .ld_E_A
  | .H, .B => .ld_H_B
  | .H, .C => .ld_H_C
  | .H, .D => .ld_H_D
  | .H, .E => .ld_H_E
  | .H, .H => .ld_H_H
  | .H, .L => .ld_H_L
  | .H, .A => .ld_H_A
  | .L, .B => .ld_L_B
  | .L, .C => .ld_L_C
  | .L, .D => .ld_L_D
  | .L, .E => .ld_L_E
  | .L, .H => .ld_L_H
  | .L, .L => .ld_L_L
  | .L, .A => .ld_L_A
  | .A, .B => .ld_A_B
  | .A, .C => .ld_A_C
  | .A, .D => .ld_A_D
  | .A, .E => .ld_A_E
  | .A, .H => .ld_A_H
  | .A, .L => .ld_A_L
  | .A, .A => .ld_A_A

/-- LD r,(HL) (R162). -/
def ldRegMemOf : Reg8 → Instr
  | .B => .ld_B_mHL
  | .C => .ld_C_mHL
  | .D => .ld_D_mHL
  | .E => .ld_E_mHL
  | .H => .ld_H_mHL
  | .L => .ld_L_mHL
  | .A => .ld_A_mHL

/-- LD (HL),r (R163). -/
def storeRegOf : Reg8 → Instr
  | .B => .ld_mHL_B
  | .C => .ld_mHL_C
  | .D => .ld_mHL_D
  | .E => .ld_mHL_E
  | .H => .ld_mHL_H
  | .L => .ld_mHL_L
  | .A => .ld_mHL_A

/-- INC r (R210). -/
def incRegOf : Reg8 → Instr
  | .B => .inc_B
  | .C => .inc_C
  | .D => .inc_D
  | .E => .inc_E
  | .H => .inc_H
  | .L => .inc_L
  | .A => .inc_A

/-- DEC r (R212). -/
def decRegOf : Reg8 → Instr
  | .B => .dec_B
  | .C => .dec_C
  | .D => .dec_D
  | .E => .dec_E
  | .H => .dec_H
  | .L => .dec_L
  | .A => .dec_A

/-- LD r,n (R161). -/
def ldRegImmOf : Reg8 → Octet → Instr
  | .B, n => .ld_B_n n
  | .C, n => .ld_C_n n
  | .D, n => .ld_D_n n
  | .E, n => .ld_E_n n
  | .H, n => .ld_H_n n
  | .L, n => .ld_L_n n
  | .A, n => .ld_A_n n

/-- The accumulator operations in their three operand forms (R104, R208). -/
def aluOf : AluOp → AluSource → Instr
  | .add, .reg .B => .add_A_B
  | .add, .reg .C => .add_A_C
  | .add, .reg .D => .add_A_D
  | .add, .reg .E => .add_A_E
  | .add, .reg .H => .add_A_H
  | .add, .reg .L => .add_A_L
  | .add, .reg .A => .add_A_A
  | .add, .mHL => .add_A_mHL
  | .add, .imm n => .add_A_n n
  | .adc, .reg .B => .adc_A_B
  | .adc, .reg .C => .adc_A_C
  | .adc, .reg .D => .adc_A_D
  | .adc, .reg .E => .adc_A_E
  | .adc, .reg .H => .adc_A_H
  | .adc, .reg .L => .adc_A_L
  | .adc, .reg .A => .adc_A_A
  | .adc, .mHL => .adc_A_mHL
  | .adc, .imm n => .adc_A_n n
  | .sub, .reg .B => .sub_B
  | .sub, .reg .C => .sub_C
  | .sub, .reg .D => .sub_D
  | .sub, .reg .E => .sub_E
  | .sub, .reg .H => .sub_H
  | .sub, .reg .L => .sub_L
  | .sub, .reg .A => .sub_A
  | .sub, .mHL => .sub_mHL
  | .sub, .imm n => .sub_n n
  | .sbc, .reg .B => .sbc_A_B
  | .sbc, .reg .C => .sbc_A_C
  | .sbc, .reg .D => .sbc_A_D
  | .sbc, .reg .E => .sbc_A_E
  | .sbc, .reg .H => .sbc_A_H
  | .sbc, .reg .L => .sbc_A_L
  | .sbc, .reg .A => .sbc_A_A
  | .sbc, .mHL => .sbc_A_mHL
  | .sbc, .imm n => .sbc_A_n n
  | .and, .reg .B => .and_B
  | .and, .reg .C => .and_C
  | .and, .reg .D => .and_D
  | .and, .reg .E => .and_E
  | .and, .reg .H => .and_H
  | .and, .reg .L => .and_L
  | .and, .reg .A => .and_A
  | .and, .mHL => .and_mHL
  | .and, .imm n => .and_n n
  | .xor, .reg .B => .xor_B
  | .xor, .reg .C => .xor_C
  | .xor, .reg .D => .xor_D
  | .xor, .reg .E => .xor_E
  | .xor, .reg .H => .xor_H
  | .xor, .reg .L => .xor_L
  | .xor, .reg .A => .xor_A
  | .xor, .mHL => .xor_mHL
  | .xor, .imm n => .xor_n n
  | .or, .reg .B => .or_B
  | .or, .reg .C => .or_C
  | .or, .reg .D => .or_D
  | .or, .reg .E => .or_E
  | .or, .reg .H => .or_H
  | .or, .reg .L => .or_L
  | .or, .reg .A => .or_A
  | .or, .mHL => .or_mHL
  | .or, .imm n => .or_n n
  | .cp, .reg .B => .cp_B
  | .cp, .reg .C => .cp_C
  | .cp, .reg .D => .cp_D
  | .cp, .reg .E => .cp_E
  | .cp, .reg .H => .cp_H
  | .cp, .reg .L => .cp_L
  | .cp, .reg .A => .cp_A
  | .cp, .mHL => .cp_mHL
  | .cp, .imm n => .cp_n n

/-- LD dd,nn (R171). -/
def ldPairImmOf : Pair → Word → Instr
  | .BC, nn => .ld_BC_nn nn
  | .DE, nn => .ld_DE_nn nn
  | .HL, nn => .ld_HL_nn nn
  | .SP, nn => .ld_SP_nn nn

/-- ADD HL,ss. -/
def addHLOf : Pair → Instr
  | .BC => .add_HL_BC
  | .DE => .add_HL_DE
  | .HL => .add_HL_HL
  | .SP => .add_HL_SP

/-- INC ss. -/
def incPairOf : Pair → Instr
  | .BC => .inc_BC
  | .DE => .inc_DE
  | .HL => .inc_HL
  | .SP => .inc_SP

/-- DEC ss. -/
def decPairOf : Pair → Instr
  | .BC => .dec_BC
  | .DE => .dec_DE
  | .HL => .dec_HL
  | .SP => .dec_SP

/-- POP qq. -/
def popOf : StackPair → Instr
  | .BC => .pop_BC
  | .DE => .pop_DE
  | .HL => .pop_HL
  | .AF => .pop_AF

/-- PUSH qq. -/
def pushOf : StackPair → Instr
  | .BC => .push_BC
  | .DE => .push_DE
  | .HL => .push_HL
  | .AF => .push_AF

/-- JP cc,nn. -/
def jpIfOf : Cond → Word → Instr
  | .NZ, nn => .jp_NZ_nn nn
  | .Z, nn => .jp_Z_nn nn
  | .NC, nn => .jp_NC_nn nn
  | .C, nn => .jp_C_nn nn
  | .PO, nn => .jp_PO_nn nn
  | .PE, nn => .jp_PE_nn nn
  | .P, nn => .jp_P_nn nn
  | .M, nn => .jp_M_nn nn

/-- CALL cc,nn. -/
def callIfOf : Cond → Word → Instr
  | .NZ, nn => .call_NZ_nn nn
  | .Z, nn => .call_Z_nn nn
  | .NC, nn => .call_NC_nn nn
  | .C, nn => .call_C_nn nn
  | .PO, nn => .call_PO_nn nn
  | .PE, nn => .call_PE_nn nn
  | .P, nn => .call_P_nn nn
  | .M, nn => .call_M_nn nn

/-- RET cc. -/
def retIfOf : Cond → Instr
  | .NZ => .ret_NZ
  | .Z => .ret_Z
  | .NC => .ret_NC
  | .C => .ret_C
  | .PO => .ret_PO
  | .PE => .ret_PE
  | .P => .ret_P
  | .M => .ret_M

/-- JR cc,e. -/
def jrIfOf : ShortCond → Octet → Instr
  | .NZ, e => .jr_NZ_e e
  | .Z, e => .jr_Z_e e
  | .NC, e => .jr_NC_e e
  | .C, e => .jr_C_e e

/-- RST p by p / 8 (R105). -/
def rstOf : Fin 8 → Instr
  | 0 => .rst_00H
  | 1 => .rst_08H
  | 2 => .rst_10H
  | 3 => .rst_18H
  | 4 => .rst_20H
  | 5 => .rst_28H
  | 6 => .rst_30H
  | 7 => .rst_38H

/-- LD (BC),A and LD (DE),A (R168, R169). -/
def storeAOf : Pointer → Instr
  | .BC => .ld_mBC_A
  | .DE => .ld_mDE_A

/-- LD A,(BC) and LD A,(DE) (R165, R166). -/
def loadAOf : Pointer → Instr
  | .BC => .ld_A_mBC
  | .DE => .ld_A_mDE

/-- The accumulator rotates. -/
def rotateOf : Rotation → Instr
  | .rlca => .rlca
  | .rrca => .rrca
  | .rla => .rla
  | .rra => .rra

/-- The instruction that a form with its fields is. -/
def Form.instr : Form → Instr
  | .nop => .nop
  | .exAF => .ex_AF_AFalt
  | .djnz e => .djnz_e e
  | .jr e => .jr_e e
  | .jrIf cc e => jrIfOf cc e
  | .ldPairImm dd nn => ldPairImmOf dd nn
  | .addHL ss => addHLOf ss
  | .storeA p => storeAOf p
  | .loadA p => loadAOf p
  | .storeHLAt nn => .ld_mNN_HL nn
  | .loadHLFrom nn => .ld_HL_mNN nn
  | .storeAAt nn => .ld_mNN_A nn
  | .loadAFrom nn => .ld_A_mNN nn
  | .incPair ss => incPairOf ss
  | .decPair ss => decPairOf ss
  | .incReg r => incRegOf r
  | .incMem => .inc_mHL
  | .decReg r => decRegOf r
  | .decMem => .dec_mHL
  | .ldRegImm r n => ldRegImmOf r n
  | .storeImm n => .ld_mHL_n n
  | .rotate k => rotateOf k
  | .daa => .daa
  | .cpl => .cpl
  | .scf => .scf
  | .ccf => .ccf
  | .ldReg d r => ldRegOf d r
  | .ldRegMem d => ldRegMemOf d
  | .storeReg r => storeRegOf r
  | .alu op src => aluOf op src
  | .retIf cc => retIfOf cc
  | .pop qq => popOf qq
  | .ret => .ret
  | .exx => .exx
  | .jpHL => .jp_HL
  | .ldSPHL => .ld_SP_HL
  | .jpIf cc nn => jpIfOf cc nn
  | .jp nn => .jp_nn nn
  | .exStack => .ex_mSP_HL
  | .exDEHL => .ex_DE_HL
  | .di => .di
  | .ei => .ei
  | .callIf cc nn => callIfOf cc nn
  | .push qq => pushOf qq
  | .callAt nn => .call_nn nn
  | .rst t => rstOf t
  | .illegal op => .illegal op

/-- An opcode octet from its fields (R92): `x * 64 + y * 8 + z`. -/
def fromXYZ (x y z : Octet) : Octet := (x <<< 6) ||| (y <<< 3) ||| z

/-- A pair field with its sub-selector (R92): `y = p * 2 + q`. -/
def fromPQ (p q : Octet) : Octet := (p <<< 1) ||| q

/-- The bytes of an accumulator operation in its three operand forms (R104, R106). -/
def aluBytes (op : AluOp) (src : AluSource) : List Octet :=
  match src with
  | .reg r => [fromXYZ 2 op.code r.code]
  | .mHL => [fromXYZ 2 op.code 6]
  | .imm n => [fromXYZ 3 op.code 6, n]

/-- The bytes of a form by the bit patterns of R106 and the field codes of R100 to R105. -/
def Form.bytes : Form → List Octet
  | .nop => [fromXYZ 0 0 0]
  | .exAF => [fromXYZ 0 1 0]
  | .djnz e => [fromXYZ 0 2 0, e]
  | .jr e => [fromXYZ 0 3 0, e]
  | .jrIf cc e => [fromXYZ 0 (4 + cc.code) 0, e]
  | .ldPairImm dd nn => [fromXYZ 0 (fromPQ dd.code 0) 1, lo nn, hi nn]
  | .addHL ss => [fromXYZ 0 (fromPQ ss.code 1) 1]
  | .storeA p => [fromXYZ 0 (fromPQ p.code 0) 2]
  | .loadA p => [fromXYZ 0 (fromPQ p.code 1) 2]
  | .storeHLAt nn => [fromXYZ 0 4 2, lo nn, hi nn]
  | .loadHLFrom nn => [fromXYZ 0 5 2, lo nn, hi nn]
  | .storeAAt nn => [fromXYZ 0 6 2, lo nn, hi nn]
  | .loadAFrom nn => [fromXYZ 0 7 2, lo nn, hi nn]
  | .incPair ss => [fromXYZ 0 (fromPQ ss.code 0) 3]
  | .decPair ss => [fromXYZ 0 (fromPQ ss.code 1) 3]
  | .incReg r => [fromXYZ 0 r.code 4]
  | .incMem => [fromXYZ 0 6 4]
  | .decReg r => [fromXYZ 0 r.code 5]
  | .decMem => [fromXYZ 0 6 5]
  | .ldRegImm r n => [fromXYZ 0 r.code 6, n]
  | .storeImm n => [fromXYZ 0 6 6, n]
  | .rotate k => [fromXYZ 0 k.code 7]
  | .daa => [fromXYZ 0 4 7]
  | .cpl => [fromXYZ 0 5 7]
  | .scf => [fromXYZ 0 6 7]
  | .ccf => [fromXYZ 0 7 7]
  | .ldReg d r => [fromXYZ 1 d.code r.code]
  | .ldRegMem d => [fromXYZ 1 d.code 6]
  | .storeReg r => [fromXYZ 1 6 r.code]
  | .alu op src => aluBytes op src
  | .retIf cc => [fromXYZ 3 cc.code 0]
  | .pop qq => [fromXYZ 3 (fromPQ qq.code 0) 1]
  | .ret => [fromXYZ 3 1 1]
  | .exx => [fromXYZ 3 3 1]
  | .jpHL => [fromXYZ 3 5 1]
  | .ldSPHL => [fromXYZ 3 7 1]
  | .jpIf cc nn => [fromXYZ 3 cc.code 2, lo nn, hi nn]
  | .jp nn => [fromXYZ 3 0 3, lo nn, hi nn]
  | .exStack => [fromXYZ 3 4 3]
  | .exDEHL => [fromXYZ 3 5 3]
  | .di => [fromXYZ 3 6 3]
  | .ei => [fromXYZ 3 7 3]
  | .callIf cc nn => [fromXYZ 3 cc.code 4, lo nn, hi nn]
  | .push qq => [fromXYZ 3 (fromPQ qq.code 0) 5]
  | .callAt nn => [fromXYZ 3 1 5, lo nn, hi nn]
  | .rst t => [fromXYZ 3 (BitVec.ofNat 8 t.val) 7]
  | .illegal op => [op]

end Sys2Proof.Machine
end

