-- ==== Sys2Proof/Safety.lean ====
section
/-! DEFINITION. The words claims use: the invariant, safe runs, what each form may write (the tables of R25, R26, R28 and of
20_memory.md section 7), the record of bus operations read as a history of the memory, and states that agree but for one element. -/

namespace Sys2Proof.Machine

/-! ## The invariant and safe runs -/

/-- What holds between steps: memory in canonical form; the INT flip-flop is the level of the line (R36, D12); maskable interrupts
are enabled, or just enabled, only while the saved enable is set (R33, R34, R37). -/
def StateInv (s : State) : Prop :=
  Memory.wf s.mem = true ∧ s.intFF = s.intLine ∧ (s.iff1 = true → s.iff2 = true) ∧ (s.eiFF = true → s.iff2 = true)

/-- The next `n` steps all answer a next state. -/
def SafeFor : Nat → State → Prop
  | 0, _ => True
  | n + 1, s => ∃ t, step s = .next t ∧ SafeFor n t

/-- An event that does not write one of the flip-flops of the invariant directly: everything but a host write of IFF1, IFF2, INT_FF
or EI_FF (R44). -/
def regularEvent : Event → Bool
  | .move (.writeIFF1 _) => false
  | .move (.writeIFF2 _) => false
  | .move (.writeIntFF _) => false
  | .move (.writeEiFF _) => false
  | _ => true

/-! ## What each form may write -/

/-- The two halves of a pair (R23); SP has none. -/
def pairHalves : Pair → List Reg8
  | .BC => [.B, .C]
  | .DE => [.D, .E]
  | .HL => [.H, .L]
  | .SP => []

/-- The 8-bit registers in a stacked pair (R23); the low half of AF is F, no register of R100. -/
def stackPairHalves : StackPair → List Reg8
  | .BC => [.B, .C]
  | .DE => [.D, .E]
  | .HL => [.H, .L]
  | .AF => [.A]

/-- The 8-bit registers a form writes (R26, column "written by"). -/
def writesReg : Form → List Reg8
  | .nop => []
  | .exAF => [.A]
  | .djnz _ => [.B]
  | .jr _ => []
  | .jrIf _ _ => []
  | .ldPairImm dd _ => pairHalves dd
  | .addHL _ => [.H, .L]
  | .storeA _ => []
  | .loadA _ => [.A]
  | .storeHLAt _ => []
  | .loadHLFrom _ => [.H, .L]
  | .storeAAt _ => []
  | .loadAFrom _ => [.A]
  | .incPair ss => pairHalves ss
  | .decPair ss => pairHalves ss
  | .incReg r => [r]
  | .incMem => []
  | .decReg r => [r]
  | .decMem => []
  | .ldRegImm r _ => [r]
  | .storeImm _ => []
  | .rotate _ => [.A]
  | .daa => [.A]
  | .cpl => [.A]
  | .scf => []
  | .ccf => []
  | .ldReg d _ => [d]
  | .ldRegMem d => [d]
  | .storeReg _ => []
  | .alu op _ => if op = .cp then [] else [.A]
  | .retIf _ => []
  | .pop qq => stackPairHalves qq
  | .ret => []
  | .exx => [.B, .C, .D, .E, .H, .L]
  | .jpHL => []
  | .ldSPHL => []
  | .jpIf _ _ => []
  | .jp _ => []
  | .exStack => [.H, .L]
  | .exDEHL => [.D, .E, .H, .L]
  | .di => []
  | .ei => []
  | .callIf _ _ => []
  | .push _ => []
  | .callAt _ => []
  | .rst _ => []
  | .illegal _ => []

/-- The flags a form writes, as a mask of F (the table of R28). -/
def writesFlags : Form → Octet
  | .nop => 0x00
  | .exAF => 0xFF
  | .djnz _ => 0x00
  | .jr _ => 0x00
  | .jrIf _ _ => 0x00
  | .ldPairImm _ _ => 0x00
  | .addHL _ => 0x3B
  | .storeA _ => 0x00
  | .loadA _ => 0x00
  | .storeHLAt _ => 0x00
  | .loadHLFrom _ => 0x00
  | .storeAAt _ => 0x00
  | .loadAFrom _ => 0x00
  | .incPair _ => 0x00
  | .decPair _ => 0x00
  | .incReg _ => 0xFE
  | .incMem => 0xFE
  | .decReg _ => 0xFE
  | .decMem => 0xFE
  | .ldRegImm _ _ => 0x00
  | .storeImm _ => 0x00
  | .rotate _ => 0x3B
  | .daa => 0xFD
  | .cpl => 0x3A
  | .scf => 0x3B
  | .ccf => 0x3B
  | .ldReg _ _ => 0x00
  | .ldRegMem _ => 0x00
  | .storeReg _ => 0x00
  | .alu _ _ => 0xFF
  | .retIf _ => 0x00
  | .pop qq => if qq = .AF then 0xFF else 0x00
  | .ret => 0x00
  | .exx => 0x00
  | .jpHL => 0x00
  | .ldSPHL => 0x00
  | .jpIf _ _ => 0x00
  | .jp _ => 0x00
  | .exStack => 0x00
  | .exDEHL => 0x00
  | .di => 0x00
  | .ei => 0x00
  | .callIf _ _ => 0x00
  | .push _ => 0x00
  | .callAt _ => 0x00
  | .rst _ => 0x00
  | .illegal _ => 0x00

/-- The forms that write SP (R26). -/
def writesSP : Form → Bool
  | .nop => false
  | .exAF => false
  | .djnz _ => false
  | .jr _ => false
  | .jrIf _ _ => false
  | .ldPairImm dd _ => dd == .SP
  | .addHL _ => false
  | .storeA _ => false
  | .loadA _ => false
  | .storeHLAt _ => false
  | .loadHLFrom _ => false
  | .storeAAt _ => false
  | .loadAFrom _ => false
  | .incPair ss => ss == .SP
  | .decPair ss => ss == .SP
  | .incReg _ => false
  | .incMem => false
  | .decReg _ => false
  | .decMem => false
  | .ldRegImm _ _ => false
  | .storeImm _ => false
  | .rotate _ => false
  | .daa => false
  | .cpl => false
  | .scf => false
  | .ccf => false
  | .ldReg _ _ => false
  | .ldRegMem _ => false
  | .storeReg _ => false
  | .alu _ _ => false
  | .retIf _ => true
  | .pop _ => true
  | .ret => true
  | .exx => false
  | .jpHL => false
  | .ldSPHL => true
  | .jpIf _ _ => false
  | .jp _ => false
  | .exStack => false
  | .exDEHL => false
  | .di => false
  | .ei => false
  | .callIf _ _ => true
  | .push _ => true
  | .callAt _ => true
  | .rst _ => true
  | .illegal _ => false

/-- The addresses a form stores to (20_memory.md section 7), from the state it is executed in. -/
def storesTo (f : Form) (s : State) : List Word :=
  match f with
  | .nop => []
  | .exAF => []
  | .djnz _ => []
  | .jr _ => []
  | .jrIf _ _ => []
  | .ldPairImm _ _ => []
  | .addHL _ => []
  | .storeA p => [s.pointer p]
  | .loadA _ => []
  | .storeHLAt nn => [nn, nn + 1]
  | .loadHLFrom _ => []
  | .storeAAt nn => [nn]
  | .loadAFrom _ => []
  | .incPair _ => []
  | .decPair _ => []
  | .incReg _ => []
  | .incMem => [s.hl]
  | .decReg _ => []
  | .decMem => [s.hl]
  | .ldRegImm _ _ => []
  | .storeImm _ => [s.hl]
  | .rotate _ => []
  | .daa => []
  | .cpl => []
  | .scf => []
  | .ccf => []
  | .ldReg _ _ => []
  | .ldRegMem _ => []
  | .storeReg _ => [s.hl]
  | .alu _ _ => []
  | .retIf _ => []
  | .pop _ => []
  | .ret => []
  | .exx => []
  | .jpHL => []
  | .ldSPHL => []
  | .jpIf _ _ => []
  | .jp _ => []
  | .exStack => [s.sp, s.sp + 1]
  | .exDEHL => []
  | .di => []
  | .ei => []
  | .callIf cc _ => if s.holds cc then [s.sp - 2, s.sp - 2 + 1] else []
  | .push _ => [s.sp - 2, s.sp - 2 + 1]
  | .callAt _ => [s.sp - 2, s.sp - 2 + 1]
  | .rst _ => [s.sp - 2, s.sp - 2 + 1]
  | .illegal _ => []

/-- The addresses a form reads data from (20_memory.md section 7), from the state it is executed in. -/
def loadsFrom (f : Form) (s : State) : List Word :=
  match f with
  | .nop => []
  | .exAF => []
  | .djnz _ => []
  | .jr _ => []
  | .jrIf _ _ => []
  | .ldPairImm _ _ => []
  | .addHL _ => []
  | .storeA _ => []
  | .loadA p => [s.pointer p]
  | .storeHLAt _ => []
  | .loadHLFrom nn => [nn, nn + 1]
  | .storeAAt _ => []
  | .loadAFrom nn => [nn]
  | .incPair _ => []
  | .decPair _ => []
  | .incReg _ => []
  | .incMem => [s.hl]
  | .decReg _ => []
  | .decMem => [s.hl]
  | .ldRegImm _ _ => []
  | .storeImm _ => []
  | .rotate _ => []
  | .daa => []
  | .cpl => []
  | .scf => []
  | .ccf => []
  | .ldReg _ _ => []
  | .ldRegMem _ => [s.hl]
  | .storeReg _ => []
  | .alu _ src => if src = .mHL then [s.hl] else []
  | .retIf cc => if s.holds cc then [s.sp, s.sp + 1] else []
  | .pop _ => [s.sp, s.sp + 1]
  | .ret => [s.sp, s.sp + 1]
  | .exx => []
  | .jpHL => []
  | .ldSPHL => []
  | .jpIf _ _ => []
  | .jp _ => []
  | .exStack => [s.sp, s.sp + 1]
  | .exDEHL => []
  | .di => []
  | .ei => []
  | .callIf _ _ => []
  | .push _ => []
  | .callAt _ => []
  | .rst _ => []
  | .illegal _ => []

/-! ## The accumulator operations (R208) -/

/-- The three operand forms of an accumulator operation answer a next state with A and F given as functions of the state before and the
operand s; length 1, 1, 2 and cost 4, 7, 7 for a register, (HL), an immediate; one data read for (HL); nothing else changes. -/
def AluAnswers (op : AluOp) (newA newF : State → Octet → Octet) : Prop :=
  (∀ (r : Reg8) (s : State), ∃ t, exec (Form.alu op (.reg r)).instr s = .next t ∧
    t.a = newA s (s.r8 r) ∧ t.f = newF s (s.r8 r) ∧
    t = { s with af := t.af, pc := s.pc + 1, cycles := s.cycles + 4 }) ∧
  (∀ s : State, ∃ t, exec (Form.alu op .mHL).instr s = .next t ∧
    t.a = newA s (s.answer s.hl) ∧ t.f = newF s (s.answer s.hl) ∧
    t = { s with af := t.af, pc := s.pc + 1, cycles := s.cycles + 7, busAnswers := dropAnswer s.busAnswers s.hl,
                 trace := s.trace ++ [.read s.hl (s.answer s.hl)] }) ∧
  (∀ (n : Octet) (s : State), ∃ t, exec (Form.alu op (.imm n)).instr s = .next t ∧
    t.a = newA s n ∧ t.f = newF s n ∧
    t = { s with af := t.af, pc := s.pc + 2, cycles := s.cycles + 7 })

/-- How many bits of an octet are 1 (R125, parity). -/
def onesCount (v : Octet) : Nat := (List.range 8).countP (fun k => v.getLsbD k)

/-! ## Bus operations as a history of the memory -/

/-- The memory and the pending answers after the operations in order, if every read among them returned the oldest answer pending for
its address, or else what the memory held at that moment. -/
def replay : Memory → List (Word × Octet) → List BusOp → Option (Memory × List (Word × Octet))
  | m, q, [] => some (m, q)
  | m, q, .read a v :: ops => if (pendingAnswer q a).getD (Memory.get m a) = v then replay m (dropAnswer q a) ops else none
  | m, q, .write a v :: ops => replay (Memory.put m a v) q ops
  | m, q, .ack _ :: ops => replay m q ops

/-- No read and no acknowledge follows a write (R69). -/
def readsBeforeWrites : List BusOp → Bool
  | [] => true
  | .write _ _ :: ops => ops.all (fun o => match o with | .write _ _ => true | _ => false)
  | _ :: ops => readsBeforeWrites ops

/-- How many of the operations are acknowledges. -/
def acknowledges : List BusOp → Nat
  | [] => 0
  | .ack _ :: ops => acknowledges ops + 1
  | _ :: ops => acknowledges ops

/-! ## Fetching by format (R91, R93 to R96) -/

/-- Format OP: the first byte alone is the instruction. -/
def FetchesOne (op : Octet) (i : Instr) : Prop := ∀ s, completeFetch op s = (i, s)

/-- Formats OP_n and OP_e: one read at `pc0 + 1`. -/
def FetchesOctet (op : Octet) (f : Octet → Instr) : Prop :=
  ∀ s, completeFetch op s =
    (f (s.answer (s.pc + 1)),
      { s with busAnswers := dropAnswer s.busAnswers (s.pc + 1), trace := s.trace ++ [.read (s.pc + 1) (s.answer (s.pc + 1))] })

/-- Format OP_nn: reads at `pc0 + 1` (low octet) and `pc0 + 2` (high octet). -/
def FetchesWord (op : Octet) (f : Word → Instr) : Prop :=
  ∀ s, completeFetch op s =
    (f (mkWord (s.answer (s.pc + 1 + 1)) (s.answer (s.pc + 1))),
      { s with busAnswers := dropAnswer (dropAnswer s.busAnswers (s.pc + 1)) (s.pc + 1 + 1),
               trace := s.trace ++ [.read (s.pc + 1) (s.answer (s.pc + 1)), .read (s.pc + 1 + 1) (s.answer (s.pc + 1 + 1))] })

/-- An accumulator operation in its three operand forms (R104, R208). -/
def FetchesAlu (op : AluOp) : Prop :=
  (∀ r : Reg8, FetchesOne (fromXYZ 2 op.code r.code) (Form.alu op (.reg r)).instr) ∧
  FetchesOne (fromXYZ 2 op.code 6) (Form.alu op .mHL).instr ∧
  FetchesOctet (fromXYZ 3 op.code 6) (fun n => (Form.alu op (.imm n)).instr)

/-- The addresses of the three octets at PC. -/
def fetchAddresses (s : State) : List Word := [s.pc, s.pc + 1, s.pc + 1 + 1]

/-- The three octets that the Bus answers at PC, as the decoder sees them. -/
def window (s : State) : List Octet := [s.answer s.pc, s.answer (s.pc + 1), s.answer (s.pc + 1 + 1)]

/-- The reads of the first `n` octets at PC, in ascending order (R69, R93). -/
def fetchReads (n : Nat) (s : State) : List BusOp := ((fetchAddresses s).take n).map fun a => .read a (s.answer a)

/-- The pending answers after one read of each of the addresses. -/
def dropAnswers (q : List (Word × Octet)) (addrs : List Word) : List (Word × Octet) := addrs.foldl dropAnswer q

/-! ## Outcomes that agree but for one element -/

/-- Apply `g` to the state an outcome carries. -/
def mapOutcome (g : State → State) : Result → Result
  | .next t => .next (g t)
  | .fault (.illegalOpcode op t) => .fault (.illegalOpcode op (g t))
  | .refused r => .refused r

/-- Forget CYCLES. -/
def forgetCycles (s : State) : State := { s with cycles := 0 }

/-- Forget IFF2. -/
def forgetIFF2 (s : State) : State := { s with iff2 := false }

/-! ## The event that a step serves (R313) -/

inductive Served where
  | reset
  | nmi
  | int
  | instruction
  deriving DecidableEq, Repr

/-- The first event in priority order whose condition holds (R300, R313). -/
def served (s : State) : Served :=
  if s.resetReq then .reset else if s.nmiFF then .nmi else if intAccepted s then .int else .instruction

end Sys2Proof.Machine
end

