-- ==== Sys2Proof/Certificates/Slice0/Obligations.lean ====
section
/-! DEFINITION. The statements for the provers. An instruction statement has two parts: how its first byte (by the bit pattern of R106 and
the field codes of R100 to R105) fetches it, and what `exec` answers. `t = { s with ... }` is its frame: every element of the state
that the braces do not name is as before. -/

open Sys2Proof Sys2Proof.Machine

/-! ## Encoding -/

/-- Decoding the bytes of a well-formed instruction gives it back, with every immediate, and hands back what follows. -/
def Obligations.DecodeInvertsEncode : Prop :=
  ∀ (i : Instr) (rest : List Octet), wellFormed i = true → decode (encode i ++ rest) = .ok (i, rest)

/-- Whatever the decoder accepts is the encoding of the instruction it answers, which is well formed. -/
def Obligations.EncodeInvertsDecode : Prop :=
  ∀ (bytes rest : List Octet) (i : Instr), decode bytes = .ok (i, rest) → wellFormed i = true ∧ encode i ++ rest = bytes

/-- The encoder follows the bit patterns of R106 with the field codes of R100 to R105, and every instruction is one of its forms. -/
def Obligations.EncodingsFollowTheBitPatterns : Prop :=
  (∀ f : Form, encode f.instr = f.bytes) ∧ (∀ i : Instr, ∃ f : Form, f.instr = i)

/-- Words written out from the spec decode to the instructions they stand for. -/
def Obligations.SpecWordsDecode : Prop :=
  decode [0x00] = .ok (.nop, []) ∧ decode [0x04] = .ok (.inc_B, []) ∧ decode [0x0D] = .ok (.dec_C, []) ∧
  decode [0xC3, 0x34, 0x12] = .ok (.jp_nn 0x1234, []) ∧ decode [0x06, 0x2A] = .ok (.ld_B_n 0x2A, []) ∧
  decode [0x20, 0xFC] = .ok (.jr_NZ_e 0xFC, []) ∧ decode [0xE3] = .ok (.ex_mSP_HL, []) ∧
  decode [0xBE] = .ok (.cp_mHL, []) ∧ decode [0x76] = .ok (.illegal 0x76, []) ∧
  decodeTableWord 24 0x1234C3 = some (.jp_nn 0x1234) ∧ decodeTableWord 8 0x39 = some .add_HL_SP

/-- The length of an instruction is a function of its first byte alone (R109): 1, 2 or 3 octets, and the decoder takes exactly so many, or
rejects by name a list that has fewer. The error operandMissing for a list that is too short is the model's own choice (log entry 11), no
rule of the spec. -/
def Obligations.LengthFollowsFirstByte : Prop :=
  ∀ (op : Octet) (rest : List Octet),
    1 ≤ variantLength (dispatch op) ∧ variantLength (dispatch op) ≤ 3 ∧
    (variantLength (dispatch op) ≤ rest.length + 1 →
      ∃ i, decode (op :: rest) = .ok (i, (op :: rest).drop (variantLength (dispatch op)))) ∧
    (rest.length + 1 < variantLength (dispatch op) → decode (op :: rest) = .error (.operandMissing op))

/-- Exactly seven first bytes map to the Illegal sentinel (R107), and the bytes after them are not read. -/
def Obligations.SevenFirstBytesAreIllegal : Prop :=
  ∀ (op : Octet) (rest : List Octet),
    ((∃ b r, decode (op :: rest) = .ok (.illegal b, r)) ↔
      op = 0x76 ∨ op = 0xCB ∨ op = 0xD3 ∨ op = 0xDB ∨ op = 0xDD ∨ op = 0xED ∨ op = 0xFD) ∧
    ∀ b r, decode (op :: rest) = .ok (.illegal b, r) → b = op ∧ r = rest ∧ FetchesOne op (.illegal op)

/-! ## Words, registers, memory, stack -/

/-- The operations of Octet and Word (R20, R21): increment adds 1 and decrement takes 1 away modulo 2^8 or 2^16, each inverts the other, bit
test, the halves of a Word and the replacing of one half. -/
def Obligations.WordsWrapAndSplit : Prop :=
  (∀ x : Octet, (incWrap x).toNat = (x.toNat + 1) % 2 ^ 8 ∧ ((decWrap x).toNat : Int) = ((x.toNat : Int) - 1) % 2 ^ 8) ∧
  (∀ x : Word, (incWrap x).toNat = (x.toNat + 1) % 2 ^ 16 ∧ ((decWrap x).toNat : Int) = ((x.toNat : Int) - 1) % 2 ^ 16) ∧
  (∀ x : Octet, incWrap (decWrap x) = x ∧ decWrap (incWrap x) = x) ∧
  (∀ x : Word, incWrap (decWrap x) = x ∧ decWrap (incWrap x) = x) ∧
  incWrap (0xFF : Octet) = 0x00 ∧ decWrap (0x00 : Octet) = 0xFF ∧
  incWrap (0xFFFF : Word) = 0x0000 ∧ decWrap (0x0000 : Word) = 0xFFFF ∧
  (∀ (w : Word) (v : Octet), hi (withHi w v) = v ∧ lo (withHi w v) = lo w ∧ hi (withLo w v) = hi w ∧ lo (withLo w v) = v) ∧
  (∀ w : Word, w.toNat = (hi w).toNat * 256 + (lo w).toNat) ∧
  (∀ (x : Octet) (n : Fin 8), x.getLsbD n.val = true ↔ x.toNat / 2 ^ n.val % 2 = 1) ∧
  (∀ (x : Word) (n : Fin 16), x.getLsbD n.val = true ↔ x.toNat / 2 ^ n.val % 2 = 1)

/-- Writing a half of a pair leaves the other half and every other register; a pair and its halves are the same storage (R23, R24). -/
def Obligations.HalvesAreIndependent : Prop :=
  (∀ (s : State) (r : Reg8) (v : Octet),
    (s.setR8 r v).r8 r = v ∧ (∀ x, x ≠ r → (s.setR8 r v).r8 x = s.r8 x) ∧ (s.setR8 r v).f = s.f) ∧
  (∀ (s : State) (v : Octet), (s.setF v).f = v ∧ ∀ x, (s.setF v).r8 x = s.r8 x) ∧
  (∀ (s : State) (w : Word),
    (s.setRqq .BC w).r8 .B = hi w ∧ (s.setRqq .BC w).r8 .C = lo w ∧
    (s.setRqq .DE w).r8 .D = hi w ∧ (s.setRqq .DE w).r8 .E = lo w ∧
    (s.setRqq .HL w).r8 .H = hi w ∧ (s.setRqq .HL w).r8 .L = lo w ∧
    (s.setRqq .AF w).r8 .A = hi w ∧ (s.setRqq .AF w).f = lo w) ∧
  (∀ s : State,
    s.bc = mkWord (s.r8 .B) (s.r8 .C) ∧ s.de = mkWord (s.r8 .D) (s.r8 .E) ∧
    s.hl = mkWord (s.r8 .H) (s.r8 .L) ∧ s.af = mkWord (s.r8 .A) s.f)

/-- A read returns an octet that the core does not constrain: the environment's oldest pending answer for the address, so that two reads of
one address may differ, else what memory holds (R61, R62, R73). A Word access is two octet accesses, low octet at the lower address, low
first, the second address wrapping; where the environment has no answer of its own a Word read gives back what a Word write stored; no other
octet changes (R66, R67, R68, R70). The Bus is the model's (log entry 4), the record too (log entry 8). -/
def Obligations.WordAccessIsLittleEndian : Prop :=
  (∀ (a : Word) (s : State),
    busRead a s = (s.answer a,
      { s with busAnswers := dropAnswer s.busAnswers a, trace := s.trace ++ [.read a (s.answer a)] }) ∧
    (∀ b, b ≠ a → (busRead a s).2.answer b = s.answer b)) ∧
  (∀ (a : Word) (s : State), pendingAnswer s.busAnswers a = none → s.answer a = s.peek a ∧ dropAnswer s.busAnswers a = s.busAnswers ∧
    ∀ v w : Octet, ∃ u, u = applyMove (.supplyRead a w) (applyMove (.supplyRead a v) s) ∧
      u = { s with busAnswers := s.busAnswers ++ [(a, v), (a, w)] } ∧
      (busRead a u).1 = v ∧ (busRead a (busRead a u).2).1 = w ∧
      (busRead a (busRead a (busRead a u).2).2).1 = s.peek a) ∧
  (∀ (a w : Word) (s : State),
    (pendingAnswer s.busAnswers a = none → pendingAnswer s.busAnswers (a + 1) = none →
      (busReadWord a (busWriteWord a w s)).1 = w) ∧
    (busReadWord a s).1 = mkWord (s.answer (a + 1)) (s.answer a) ∧
    (busReadWord a s).2 = { s with busAnswers := dropAnswer (dropAnswer s.busAnswers a) (a + 1),
                                   trace := s.trace ++ [.read a (s.answer a), .read (a + 1) (s.answer (a + 1))] } ∧
    (∀ b, (busWriteWord a w s).peek b = if b = a then lo w else if b = a + 1 then hi w else s.peek b) ∧
    busWriteWord a w s = { s with mem := (busWriteWord a w s).mem, trace := s.trace ++ [.write a (lo w), .write (a + 1) (hi w)] })

/-- `Pop` gives back what `Push` stored, where the environment has no answer of its own for those octets, SP included, and writes no memory
(R250, R251). The Bus is the model's (log entry 4), the record too (log entry 8). -/
def Obligations.PopUndoesPush : Prop :=
  ∀ (w : Word) (s : State),
    (push w s).sp = s.sp - 2 ∧
    (∀ b, (push w s).peek b = if b = s.sp - 2 then lo w else if b = s.sp - 2 + 1 then hi w else s.peek b) ∧
    (pendingAnswer s.busAnswers (s.sp - 2) = none → pendingAnswer s.busAnswers (s.sp - 2 + 1) = none → (pop (push w s)).1 = w) ∧
    (pop (push w s)).2.sp = s.sp ∧
    (pop s).1 = mkWord (s.answer (s.sp + 1)) (s.answer s.sp) ∧ (pop s).2.sp = s.sp + 2 ∧ (pop s).2.mem = s.mem

/-- Two canonical memories that read alike at every address are equal data. The form is the model's (log entry 5). -/
def Obligations.CanonicalMemoriesAreEqual : Prop :=
  ∀ m k : Memory, Memory.wf m = true → Memory.wf k = true → (∀ a : Word, Memory.get m a = Memory.get k a) → m = k

/-! ## The flags engine -/

/-- Applying an affection, and composing two: the right one wins on every flag both affect (R121, R122, R123). -/
def Obligations.AffectionsComposeRightBiased : Prop :=
  (∀ mask value f : Octet,
    applyAff (aff mask value) f = (f &&& ~~~mask) ||| (value &&& mask) ∧ (aff mask value).set &&& (aff mask value).clear = 0) ∧
  (∀ l r : Affection, l.set &&& l.clear = 0 → r.set &&& r.clear = 0 →
    (∀ f, applyAff (overlay l r) f = applyAff r (applyAff l f)) ∧
    (overlay l r).set &&& (overlay l r).clear = 0 ∧
    (overlay l r).set &&& (r.set ||| r.clear) = r.set ∧ (overlay l r).clear &&& (r.set ||| r.clear) = r.clear) ∧
  (∀ l m r : Affection, overlay (overlay l m) r = overlay l (overlay m r)) ∧
  (∀ x : Affection, overlay (aff 0 0) x = x ∧ overlay x (aff 0 0) = x)

/-- The result and all eight flags of `Add8` by exact arithmetic, whatever F was (R127). -/
def Obligations.AddFlagsAreExact : Prop :=
  ∀ (a b f : Octet) (cin : Bool),
    (add8 a b cin).1.toNat = (a.toNat + b.toNat + cin.toNat) % 256 ∧
    (applyAff (add8 a b cin).2 f).getLsbD 7 = (add8 a b cin).1.getLsbD 7 ∧
    ((applyAff (add8 a b cin).2 f).getLsbD 6 = true ↔ (add8 a b cin).1 = 0) ∧
    (applyAff (add8 a b cin).2 f).getLsbD 5 = (add8 a b cin).1.getLsbD 5 ∧
    ((applyAff (add8 a b cin).2 f).getLsbD 4 = true ↔ 15 < a.toNat % 16 + b.toNat % 16 + cin.toNat) ∧
    (applyAff (add8 a b cin).2 f).getLsbD 3 = (add8 a b cin).1.getLsbD 3 ∧
    ((applyAff (add8 a b cin).2 f).getLsbD 2 = true ↔
      a.toInt + b.toInt + cin.toNat < -128 ∨ 127 < a.toInt + b.toInt + cin.toNat) ∧
    (applyAff (add8 a b cin).2 f).getLsbD 1 = false ∧
    ((applyAff (add8 a b cin).2 f).getLsbD 0 = true ↔ 255 < a.toNat + b.toNat + cin.toNat)

/-- The result and all eight flags of `Sub8` by exact arithmetic; `Cp8` has the same but for F5 and F3, which are the operand's (R128,
R129). -/
def Obligations.SubAndCompareFlagsAreExact : Prop :=
  ∀ (a b f : Octet) (cin : Bool),
    ((sub8 a b cin).1.toNat : Int) = ((a.toNat : Int) - b.toNat - cin.toNat) % 256 ∧
    (applyAff (sub8 a b cin).2 f).getLsbD 7 = (sub8 a b cin).1.getLsbD 7 ∧
    ((applyAff (sub8 a b cin).2 f).getLsbD 6 = true ↔ (sub8 a b cin).1 = 0) ∧
    (applyAff (sub8 a b cin).2 f).getLsbD 5 = (sub8 a b cin).1.getLsbD 5 ∧
    ((applyAff (sub8 a b cin).2 f).getLsbD 4 = true ↔ a.toNat % 16 < b.toNat % 16 + cin.toNat) ∧
    (applyAff (sub8 a b cin).2 f).getLsbD 3 = (sub8 a b cin).1.getLsbD 3 ∧
    ((applyAff (sub8 a b cin).2 f).getLsbD 2 = true ↔
      a.toInt - b.toInt - cin.toNat < -128 ∨ 127 < a.toInt - b.toInt - cin.toNat) ∧
    (applyAff (sub8 a b cin).2 f).getLsbD 1 = true ∧
    ((applyAff (sub8 a b cin).2 f).getLsbD 0 = true ↔ a.toNat < b.toNat + cin.toNat) ∧
    applyAff (cp8 a b) f = (applyAff (sub8 a b false).2 f &&& 0xD7) ||| (b &&& 0x28)

/-- `Inc8` and `Dec8`: the flags of ADD(a, 1) and SUB(a, 1) with C kept, and their corner conditions (R130, R131). -/
def Obligations.IncDecFlagsKeepCarry : Prop :=
  ∀ a f : Octet,
    (inc8 a).1 = a + 1 ∧ applyAff (inc8 a).2 f = (applyAff (add8 a 1 false).2 f &&& 0xFE) ||| (f &&& 0x01) ∧
    ((applyAff (inc8 a).2 f).getLsbD 4 = true ↔ a.toNat % 16 = 15) ∧
    ((applyAff (inc8 a).2 f).getLsbD 2 = true ↔ a = 0x7F) ∧
    ((applyAff (inc8 a).2 f).getLsbD 6 = true ↔ a = 0xFF) ∧ (applyAff (inc8 a).2 f).getLsbD 1 = false ∧
    (dec8 a).1 = a - 1 ∧ applyAff (dec8 a).2 f = (applyAff (sub8 a 1 false).2 f &&& 0xFE) ||| (f &&& 0x01) ∧
    ((applyAff (dec8 a).2 f).getLsbD 4 = true ↔ a.toNat % 16 = 0) ∧
    ((applyAff (dec8 a).2 f).getLsbD 2 = true ↔ a = 0x80) ∧
    ((applyAff (dec8 a).2 f).getLsbD 6 = true ↔ a = 0x01) ∧ (applyAff (dec8 a).2 f).getLsbD 1 = true

/-- The intrinsic flags, and those of AND, OR / XOR and the accumulator rotates (R126, R132, R133, R134). -/
def Obligations.LogicAndRotateFlags : Prop :=
  ∀ v f : Octet,
    applyAff (intrinsic v) f = (f &&& 0x17) ||| (v &&& 0xA8) ||| (if v = 0 then 0x40 else 0) ∧
    applyAff (andFlags v) f =
      (v &&& 0xA8) ||| (if v = 0 then 0x40 else 0) ||| 0x10 ||| (if onesCount v % 2 = 0 then 0x04 else 0) ∧
    applyAff (orXorFlags v) f =
      (v &&& 0xA8) ||| (if v = 0 then 0x40 else 0) ||| (if onesCount v % 2 = 0 then 0x04 else 0) ∧
    applyAff (rotAFlags v) f = (f &&& 0xC5) ||| (v &&& 0x28)

/-- `Add16`: half-carry across bit 11/12, carry across bit 15, F5 and F3 from the high octet, S, Z, PV kept (R135). -/
def Obligations.WordAddFlagsAreExact : Prop :=
  ∀ (a b : Word) (f : Octet),
    (add16 a b).1.toNat = (a.toNat + b.toNat) % 65536 ∧
    ((applyAff (add16 a b).2 f).getLsbD 4 = true ↔ 4095 < a.toNat % 4096 + b.toNat % 4096) ∧
    ((applyAff (add16 a b).2 f).getLsbD 0 = true ↔ 65535 < a.toNat + b.toNat) ∧
    (applyAff (add16 a b).2 f).getLsbD 1 = false ∧
    (applyAff (add16 a b).2 f).getLsbD 5 = (add16 a b).1.getLsbD 13 ∧
    (applyAff (add16 a b).2 f).getLsbD 3 = (add16 a b).1.getLsbD 11 ∧
    applyAff (add16 a b).2 f &&& 0xC4 = f &&& 0xC4

/-! ## Loads, stack, exchanges -/

/-- LD r,r′ and LD r,n (R160, R161): 49 and 7 instructions. The Bus is the model's (log entry 4), the record too (log entry 8). -/
def Obligations.LoadRegister : Prop :=
  (∀ d r : Reg8, FetchesOne (fromXYZ 1 d.code r.code) (Form.ldReg d r).instr) ∧
  (∀ (d r : Reg8) (s : State), ∃ t, exec (Form.ldReg d r).instr s = .next t ∧
    t.r8 d = s.r8 r ∧ (∀ x, x ≠ d → t.r8 x = s.r8 x) ∧ t.f = s.f ∧
    t = { s with af := t.af, bc := t.bc, de := t.de, hl := t.hl, pc := s.pc + 1, cycles := s.cycles + 4 }) ∧
  (∀ d : Reg8, FetchesOctet (fromXYZ 0 d.code 6) (fun n => (Form.ldRegImm d n).instr)) ∧
  (∀ (d : Reg8) (n : Octet) (s : State), ∃ t, exec (Form.ldRegImm d n).instr s = .next t ∧
    t.r8 d = n ∧ (∀ x, x ≠ d → t.r8 x = s.r8 x) ∧ t.f = s.f ∧
    t = { s with af := t.af, bc := t.bc, de := t.de, hl := t.hl, pc := s.pc + 2, cycles := s.cycles + 7 })

/-- LD r,(HL), LD A,(BC), LD A,(DE), LD A,(nn) (R162, R165, R166, R167). The Bus is the model's (log entry 4), the record too (log entry 8).
-/
def Obligations.LoadRegisterFromMemory : Prop :=
  (∀ d : Reg8, FetchesOne (fromXYZ 1 d.code 6) (Form.ldRegMem d).instr) ∧
  (∀ (d : Reg8) (s : State), ∃ t, exec (Form.ldRegMem d).instr s = .next t ∧
    t.r8 d = s.answer s.hl ∧ (∀ x, x ≠ d → t.r8 x = s.r8 x) ∧ t.f = s.f ∧
    t = { s with af := t.af, bc := t.bc, de := t.de, hl := t.hl, pc := s.pc + 1, cycles := s.cycles + 7,
                 busAnswers := dropAnswer s.busAnswers s.hl,
                 trace := s.trace ++ [.read s.hl (s.answer s.hl)] }) ∧
  FetchesOne 0x0A .ld_A_mBC ∧ FetchesOne 0x1A .ld_A_mDE ∧ FetchesWord 0x3A .ld_A_mNN ∧
  (∀ s : State, ∃ t, exec .ld_A_mBC s = .next t ∧ t.a = s.answer s.bc ∧ t.f = s.f ∧
    t = { s with af := t.af, pc := s.pc + 1, cycles := s.cycles + 7,
                 busAnswers := dropAnswer s.busAnswers s.bc, trace := s.trace ++ [.read s.bc (s.answer s.bc)] }) ∧
  (∀ s : State, ∃ t, exec .ld_A_mDE s = .next t ∧ t.a = s.answer s.de ∧ t.f = s.f ∧
    t = { s with af := t.af, pc := s.pc + 1, cycles := s.cycles + 7,
                 busAnswers := dropAnswer s.busAnswers s.de, trace := s.trace ++ [.read s.de (s.answer s.de)] }) ∧
  (∀ (nn : Word) (s : State), ∃ t, exec (.ld_A_mNN nn) s = .next t ∧ t.a = s.answer nn ∧ t.f = s.f ∧
    t = { s with af := t.af, pc := s.pc + 3, cycles := s.cycles + 13,
                 busAnswers := dropAnswer s.busAnswers nn, trace := s.trace ++ [.read nn (s.answer nn)] })

/-- LD (HL),r, LD (HL),n, LD (BC),A, LD (DE),A, LD (nn),A (R163, R164, R168, R169, R170): exactly one octet of memory changes. The Bus is
the model's (log entry 4), the record too (log entry 8). -/
def Obligations.StoreOctet : Prop :=
  (∀ r : Reg8, FetchesOne (fromXYZ 1 6 r.code) (Form.storeReg r).instr) ∧
  FetchesOctet 0x36 .ld_mHL_n ∧ FetchesOne 0x02 .ld_mBC_A ∧ FetchesOne 0x12 .ld_mDE_A ∧ FetchesWord 0x32 .ld_mNN_A ∧
  (∀ (r : Reg8) (s : State), ∃ t, exec (Form.storeReg r).instr s = .next t ∧
    (∀ b, t.peek b = if b = s.hl then s.r8 r else s.peek b) ∧
    t = { s with mem := t.mem, pc := s.pc + 1, cycles := s.cycles + 7, trace := s.trace ++ [.write s.hl (s.r8 r)] }) ∧
  (∀ (n : Octet) (s : State), ∃ t, exec (.ld_mHL_n n) s = .next t ∧
    (∀ b, t.peek b = if b = s.hl then n else s.peek b) ∧
    t = { s with mem := t.mem, pc := s.pc + 2, cycles := s.cycles + 10, trace := s.trace ++ [.write s.hl n] }) ∧
  (∀ s : State, ∃ t, exec .ld_mBC_A s = .next t ∧ (∀ b, t.peek b = if b = s.bc then s.a else s.peek b) ∧
    t = { s with mem := t.mem, pc := s.pc + 1, cycles := s.cycles + 7, trace := s.trace ++ [.write s.bc s.a] }) ∧
  (∀ s : State, ∃ t, exec .ld_mDE_A s = .next t ∧ (∀ b, t.peek b = if b = s.de then s.a else s.peek b) ∧
    t = { s with mem := t.mem, pc := s.pc + 1, cycles := s.cycles + 7, trace := s.trace ++ [.write s.de s.a] }) ∧
  (∀ (nn : Word) (s : State), ∃ t, exec (.ld_mNN_A nn) s = .next t ∧ (∀ b, t.peek b = if b = nn then s.a else s.peek b) ∧
    t = { s with mem := t.mem, pc := s.pc + 3, cycles := s.cycles + 13, trace := s.trace ++ [.write nn s.a] })

/-- LD dd,nn and LD SP,HL (R171, R174). The Bus is the model's (log entry 4), the record too (log entry 8). -/
def Obligations.LoadPair : Prop :=
  (∀ dd : Pair, FetchesWord (fromXYZ 0 (fromPQ dd.code 0) 1) (fun nn => (Form.ldPairImm dd nn).instr)) ∧ FetchesOne 0xF9 .ld_SP_HL ∧
  (∀ (dd : Pair) (nn : Word) (s : State), ∃ t, exec (Form.ldPairImm dd nn).instr s = .next t ∧
    t.r16 dd = nn ∧ (∀ x, x ≠ dd → t.r16 x = s.r16 x) ∧
    t = { s with bc := t.bc, de := t.de, hl := t.hl, sp := t.sp, pc := s.pc + 3, cycles := s.cycles + 10 }) ∧
  (∀ s : State, exec .ld_SP_HL s = .next { s with sp := s.hl, pc := s.pc + 1, cycles := s.cycles + 6 })

/-- LD HL,(nn) and LD (nn),HL (R172, R173): L at nn, H at nn + 1, the address wrapping. The Bus is the model's (log entry 4), the record too
(log entry 8). -/
def Obligations.LoadStoreHLWord : Prop :=
  FetchesWord 0x2A .ld_HL_mNN ∧ FetchesWord 0x22 .ld_mNN_HL ∧
  (∀ (nn : Word) (s : State), exec (.ld_HL_mNN nn) s = .next
    { s with hl := mkWord (s.answer (nn + 1)) (s.answer nn), pc := s.pc + 3, cycles := s.cycles + 16,
             busAnswers := dropAnswer (dropAnswer s.busAnswers nn) (nn + 1),
             trace := s.trace ++ [.read nn (s.answer nn), .read (nn + 1) (s.answer (nn + 1))] }) ∧
  (∀ (nn : Word) (s : State), ∃ t, exec (.ld_mNN_HL nn) s = .next t ∧
    (∀ b, t.peek b = if b = nn then s.r8 .L else if b = nn + 1 then s.r8 .H else s.peek b) ∧
    t = { s with mem := t.mem, pc := s.pc + 3, cycles := s.cycles + 16,
                 trace := s.trace ++ [.write nn (s.r8 .L), .write (nn + 1) (s.r8 .H)] })

/-- PUSH qq and POP qq (R175, R176): low octet at SP, high octet at SP + 1; POP AF loads all eight flags. The Bus is the model's (log entry
4), the record too (log entry 8). -/
def Obligations.PushAndPopPairs : Prop :=
  (∀ qq : StackPair, FetchesOne (fromXYZ 3 (fromPQ qq.code 0) 5) (Form.push qq).instr ∧
    FetchesOne (fromXYZ 3 (fromPQ qq.code 0) 1) (Form.pop qq).instr) ∧
  (∀ (qq : StackPair) (s : State), ∃ t, exec (Form.push qq).instr s = .next t ∧
    (∀ b, t.peek b = if b = s.sp - 2 then lo (s.rqq qq) else if b = s.sp - 2 + 1 then hi (s.rqq qq) else s.peek b) ∧
    t = { s with sp := s.sp - 2, mem := t.mem, pc := s.pc + 1, cycles := s.cycles + 11,
                 trace := s.trace ++ [.write (s.sp - 2) (lo (s.rqq qq)), .write (s.sp - 2 + 1) (hi (s.rqq qq))] }) ∧
  (∀ (qq : StackPair) (s : State), ∃ t, exec (Form.pop qq).instr s = .next t ∧
    t.rqq qq = mkWord (s.answer (s.sp + 1)) (s.answer s.sp) ∧ (∀ x, x ≠ qq → t.rqq x = s.rqq x) ∧
    t = { s with af := t.af, bc := t.bc, de := t.de, hl := t.hl, sp := s.sp + 2, pc := s.pc + 1, cycles := s.cycles + 10,
                 busAnswers := dropAnswer (dropAnswer s.busAnswers s.sp) (s.sp + 1),
                 trace := s.trace ++ [.read s.sp (s.answer s.sp), .read (s.sp + 1) (s.answer (s.sp + 1))] })

/-- EX DE,HL, EX AF,AF′ and EXX (R177, R178, R179): values are exchanged, nothing else changes, and two in a row restore all. -/
def Obligations.ExchangePairs : Prop :=
  FetchesOne 0xEB .ex_DE_HL ∧ FetchesOne 0x08 .ex_AF_AFalt ∧ FetchesOne 0xD9 .exx ∧
  (∀ s : State,
    exec .ex_DE_HL s = .next { s with de := s.hl, hl := s.de, pc := s.pc + 1, cycles := s.cycles + 4 } ∧
    exec .ex_AF_AFalt s = .next { s with af := s.af', af' := s.af, pc := s.pc + 1, cycles := s.cycles + 4 } ∧
    exec .exx s = .next { s with bc := s.bc', bc' := s.bc, de := s.de', de' := s.de, hl := s.hl', hl' := s.hl,
                                 pc := s.pc + 1, cycles := s.cycles + 4 })

/-- EX (SP),HL (R180): read low, read high, write low, write high; SP is unchanged. The Bus is the model's (log entry 4), the record too
(log entry 8). -/
def Obligations.ExchangeStackTop : Prop :=
  FetchesOne 0xE3 .ex_mSP_HL ∧
  ∀ s : State, ∃ t, exec .ex_mSP_HL s = .next t ∧
    (∀ b, t.peek b = if b = s.sp then s.r8 .L else if b = s.sp + 1 then s.r8 .H else s.peek b) ∧
    t = { s with hl := mkWord (s.answer (s.sp + 1)) (s.answer s.sp), mem := t.mem, pc := s.pc + 1, cycles := s.cycles + 19,
                 busAnswers := dropAnswer (dropAnswer s.busAnswers s.sp) (s.sp + 1),
                 trace := s.trace ++ [.read s.sp (s.answer s.sp), .read (s.sp + 1) (s.answer (s.sp + 1)),
                   .write s.sp (s.r8 .L), .write (s.sp + 1) (s.r8 .H)] }

/-! ## 8-bit arithmetic -/

/-- ADD, ADC, SUB, SBC, CP with a register, (HL) or an immediate (R200 to R203, R207, R208): fetch, A, F, length 1, 1, 2, cost 4, 7, 7 and
the one data read (`AluAnswers`); CP leaves A and sets Z and C by comparison. The flag functions are those of `AddFlagsAreExact` and
`SubAndCompareFlagsAreExact`. The Bus is the model's (log entry 4), the record too (log entry 8). -/
def Obligations.AccumulatorArithmetic : Prop :=
  FetchesAlu .add ∧ FetchesAlu .adc ∧ FetchesAlu .sub ∧ FetchesAlu .sbc ∧ FetchesAlu .cp ∧
  AluAnswers .add (fun s v => s.a + v) (fun s v => applyAff (add8 s.a v false).2 s.f) ∧
  AluAnswers .adc (fun s v => s.a + v + bitOf (s.f.getLsbD 0)) (fun s v => applyAff (add8 s.a v (s.f.getLsbD 0)).2 s.f) ∧
  AluAnswers .sub (fun s v => s.a - v) (fun s v => applyAff (sub8 s.a v false).2 s.f) ∧
  AluAnswers .sbc (fun s v => s.a - v - bitOf (s.f.getLsbD 0)) (fun s v => applyAff (sub8 s.a v (s.f.getLsbD 0)).2 s.f) ∧
  AluAnswers .cp (fun s _ => s.a) (fun s v => applyAff (cp8 s.a v) s.f) ∧
  (∀ a v f : Octet, ((applyAff (cp8 a v) f).getLsbD 6 = true ↔ a = v) ∧ ((applyAff (cp8 a v) f).getLsbD 0 = true ↔ a.toNat < v.toNat))

/-- AND, XOR, OR with a register, (HL) or an immediate (R204, R205, R206, R208): fetch, A, F, length 1, 1, 2, cost 4, 7, 7 and the one data
read (`AluAnswers`). The Bus is the model's (log entry 4), the record too (log entry 8). -/
def Obligations.AccumulatorLogic : Prop :=
  FetchesAlu .and ∧ FetchesAlu .xor ∧ FetchesAlu .or ∧
  AluAnswers .and (fun s v => s.a &&& v) (fun s v => applyAff (andFlags (s.a &&& v)) s.f) ∧
  AluAnswers .xor (fun s v => s.a ^^^ v) (fun s v => applyAff (orXorFlags (s.a ^^^ v)) s.f) ∧
  AluAnswers .or (fun s v => s.a ||| v) (fun s v => applyAff (orXorFlags (s.a ||| v)) s.f)

/-- INC r, DEC r, INC (HL), DEC (HL) (R210 to R213). The Bus is the model's (log entry 4), the record too (log entry 8). -/
def Obligations.IncDecOctet : Prop :=
  (∀ r : Reg8, FetchesOne (fromXYZ 0 r.code 4) (Form.incReg r).instr ∧ FetchesOne (fromXYZ 0 r.code 5) (Form.decReg r).instr) ∧
  FetchesOne 0x34 .inc_mHL ∧ FetchesOne 0x35 .dec_mHL ∧
  (∀ (r : Reg8) (s : State), ∃ t, exec (Form.incReg r).instr s = .next t ∧
    t.r8 r = s.r8 r + 1 ∧ (∀ x, x ≠ r → t.r8 x = s.r8 x) ∧ t.f = applyAff (inc8 (s.r8 r)).2 s.f ∧
    t = { s with af := t.af, bc := t.bc, de := t.de, hl := t.hl, pc := s.pc + 1, cycles := s.cycles + 4 }) ∧
  (∀ (r : Reg8) (s : State), ∃ t, exec (Form.decReg r).instr s = .next t ∧
    t.r8 r = s.r8 r - 1 ∧ (∀ x, x ≠ r → t.r8 x = s.r8 x) ∧ t.f = applyAff (dec8 (s.r8 r)).2 s.f ∧
    t = { s with af := t.af, bc := t.bc, de := t.de, hl := t.hl, pc := s.pc + 1, cycles := s.cycles + 4 }) ∧
  (∀ s : State, ∃ t, exec .inc_mHL s = .next t ∧
    (∀ b, t.peek b = if b = s.hl then s.answer s.hl + 1 else s.peek b) ∧ t.a = s.a ∧ t.f = applyAff (inc8 (s.answer s.hl)).2 s.f ∧
    t = { s with af := t.af, mem := t.mem, pc := s.pc + 1, cycles := s.cycles + 11,
                 busAnswers := dropAnswer s.busAnswers s.hl,
                 trace := s.trace ++ [.read s.hl (s.answer s.hl), .write s.hl (s.answer s.hl + 1)] }) ∧
  (∀ s : State, ∃ t, exec .dec_mHL s = .next t ∧
    (∀ b, t.peek b = if b = s.hl then s.answer s.hl - 1 else s.peek b) ∧ t.a = s.a ∧ t.f = applyAff (dec8 (s.answer s.hl)).2 s.f ∧
    t = { s with af := t.af, mem := t.mem, pc := s.pc + 1, cycles := s.cycles + 11,
                 busAnswers := dropAnswer s.busAnswers s.hl,
                 trace := s.trace ++ [.read s.hl (s.answer s.hl), .write s.hl (s.answer s.hl - 1)] })

/-- RLCA, RRCA, RLA, RRA (R214 to R217): S, Z, PV kept, H and N cleared, F5 and F3 from the new A, C the bit rotated out. -/
def Obligations.RotateAccumulator : Prop :=
  FetchesOne 0x07 .rlca ∧ FetchesOne 0x0F .rrca ∧ FetchesOne 0x17 .rla ∧ FetchesOne 0x1F .rra ∧
  ∀ s : State,
    (∃ t, exec .rlca s = .next t ∧ t.a = s.a.rotateLeft 1 ∧
      t.f = (s.f &&& 0xC4) ||| (t.a &&& 0x28) ||| bitOf (s.a.getLsbD 7) ∧
      t = { s with af := t.af, pc := s.pc + 1, cycles := s.cycles + 4 }) ∧
    (∃ t, exec .rrca s = .next t ∧ t.a = s.a.rotateRight 1 ∧
      t.f = (s.f &&& 0xC4) ||| (t.a &&& 0x28) ||| bitOf (s.a.getLsbD 0) ∧
      t = { s with af := t.af, pc := s.pc + 1, cycles := s.cycles + 4 }) ∧
    (∃ t, exec .rla s = .next t ∧ t.a.toNat = (s.a.toNat * 2 + (s.f.getLsbD 0).toNat) % 256 ∧
      t.f = (s.f &&& 0xC4) ||| (t.a &&& 0x28) ||| bitOf (s.a.getLsbD 7) ∧
      t = { s with af := t.af, pc := s.pc + 1, cycles := s.cycles + 4 }) ∧
    (∃ t, exec .rra s = .next t ∧ t.a.toNat = s.a.toNat / 2 + 128 * (s.f.getLsbD 0).toNat ∧
      t.f = (s.f &&& 0xC4) ||| (t.a &&& 0x28) ||| bitOf (s.a.getLsbD 0) ∧
      t = { s with af := t.af, pc := s.pc + 1, cycles := s.cycles + 4 })

/-- DAA (R218), with F's bits by number: C 0, N 1, PV 2, F3 3, H 4, F5 5, Z 6, S 7. -/
def Obligations.DecimalAdjust : Prop :=
  FetchesOne 0x27 .daa ∧
  ∀ s : State, ∃ (t : State) (low high : Bool),
    (low = true ↔ s.f.getLsbD 4 = true ∨ 9 < s.a.toNat % 16) ∧ (high = true ↔ s.f.getLsbD 0 = true ∨ 0x99 < s.a.toNat) ∧
    exec .daa s = .next t ∧
    (s.f.getLsbD 1 = false → t.a.toNat = (s.a.toNat + 6 * low.toNat + 0x60 * high.toNat) % 256 ∧
      (t.f.getLsbD 4 = true ↔ 9 < s.a.toNat % 16)) ∧
    (s.f.getLsbD 1 = true → t.a.toNat = (s.a.toNat + 256 - 6 * low.toNat - 0x60 * high.toNat) % 256 ∧
      (t.f.getLsbD 4 = true ↔ s.f.getLsbD 4 = true ∧ s.a.toNat % 16 < 6)) ∧
    t.f.getLsbD 7 = t.a.getLsbD 7 ∧ (t.f.getLsbD 6 = true ↔ t.a = 0) ∧ t.f.getLsbD 5 = t.a.getLsbD 5 ∧
    t.f.getLsbD 3 = t.a.getLsbD 3 ∧ (t.f.getLsbD 2 = true ↔ onesCount t.a % 2 = 0) ∧
    t.f.getLsbD 1 = s.f.getLsbD 1 ∧ t.f.getLsbD 0 = high ∧
    t = { s with af := t.af, pc := s.pc + 1, cycles := s.cycles + 4 }

/-- CPL, SCF, CCF (R219, R220, R221). -/
def Obligations.ComplementAndCarry : Prop :=
  FetchesOne 0x2F .cpl ∧ FetchesOne 0x37 .scf ∧ FetchesOne 0x3F .ccf ∧
  ∀ s : State,
    (∃ t, exec .cpl s = .next t ∧ t.a = ~~~s.a ∧ t.f = (s.f &&& 0xC5) ||| (t.a &&& 0x28) ||| 0x12 ∧
      t = { s with af := t.af, pc := s.pc + 1, cycles := s.cycles + 4 }) ∧
    (∃ t, exec .scf s = .next t ∧ t.a = s.a ∧ t.f = (s.f &&& 0xC4) ||| (s.a &&& 0x28) ||| 0x01 ∧
      t = { s with af := t.af, pc := s.pc + 1, cycles := s.cycles + 4 }) ∧
    (∃ t, exec .ccf s = .next t ∧ t.a = s.a ∧
      t.f = (s.f &&& 0xC4) ||| (s.a &&& 0x28) ||| (if s.f.getLsbD 0 = true then 0x10 else 0x01) ∧
      t = { s with af := t.af, pc := s.pc + 1, cycles := s.cycles + 4 })

/-! ## 16-bit arithmetic -/

/-- ADD HL,ss, INC ss, DEC ss (R240, R241, R242): the last two change no flag. -/
def Obligations.PairArithmetic : Prop :=
  (∀ ss : Pair, FetchesOne (fromXYZ 0 (fromPQ ss.code 1) 1) (Form.addHL ss).instr ∧
    FetchesOne (fromXYZ 0 (fromPQ ss.code 0) 3) (Form.incPair ss).instr ∧
    FetchesOne (fromXYZ 0 (fromPQ ss.code 1) 3) (Form.decPair ss).instr) ∧
  (∀ (ss : Pair) (s : State), ∃ t, exec (Form.addHL ss).instr s = .next t ∧
    t.hl = s.hl + s.r16 ss ∧ t.a = s.a ∧ t.f = applyAff (add16 s.hl (s.r16 ss)).2 s.f ∧
    t = { s with af := t.af, hl := t.hl, pc := s.pc + 1, cycles := s.cycles + 11 }) ∧
  (∀ (ss : Pair) (s : State), ∃ t, exec (Form.incPair ss).instr s = .next t ∧
    t.r16 ss = s.r16 ss + 1 ∧ (∀ x, x ≠ ss → t.r16 x = s.r16 x) ∧
    t = { s with bc := t.bc, de := t.de, hl := t.hl, sp := t.sp, pc := s.pc + 1, cycles := s.cycles + 6 }) ∧
  (∀ (ss : Pair) (s : State), ∃ t, exec (Form.decPair ss).instr s = .next t ∧
    t.r16 ss = s.r16 ss - 1 ∧ (∀ x, x ≠ ss → t.r16 x = s.r16 x) ∧
    t = { s with bc := t.bc, de := t.de, hl := t.hl, sp := t.sp, pc := s.pc + 1, cycles := s.cycles + 6 })

/-! ## Control transfer -/

/-- JP nn, JP cc,nn, JP (HL) (R254, R255, R256), and what each condition tests (R253): PC is assigned, or advanced by the whole length when
the condition fails. The Bus is the model's (log entry 4), the record too (log entry 8). -/
def Obligations.AbsoluteJumps : Prop :=
  (∀ s : State,
    s.holds .NZ = !s.f.getLsbD 6 ∧ s.holds .Z = s.f.getLsbD 6 ∧ s.holds .NC = !s.f.getLsbD 0 ∧ s.holds .C = s.f.getLsbD 0 ∧
    s.holds .PO = !s.f.getLsbD 2 ∧ s.holds .PE = s.f.getLsbD 2 ∧ s.holds .P = !s.f.getLsbD 7 ∧ s.holds .M = s.f.getLsbD 7) ∧
  FetchesWord 0xC3 .jp_nn ∧ (∀ cc : Cond, FetchesWord (fromXYZ 3 cc.code 2) (fun nn => (Form.jpIf cc nn).instr)) ∧ FetchesOne 0xE9 .jp_HL ∧
  (∀ (nn : Word) (s : State), exec (.jp_nn nn) s = .next { s with pc := nn, cycles := s.cycles + 10 }) ∧
  (∀ (cc : Cond) (nn : Word) (s : State), exec (Form.jpIf cc nn).instr s =
    .next { s with pc := if s.holds cc = true then nn else s.pc + 3, cycles := s.cycles + 10 }) ∧
  (∀ s : State, exec .jp_HL s = .next { s with pc := s.hl, cycles := s.cycles + 4 })

/-- JR e, JR cc,e, DJNZ e (R257, R258, R259, R95), and what each of the four conditions tests (R253): the target is relative to the address
after the instruction; DJNZ changes B and no flag. The Bus is the model's (log entry 4), the record too (log entry 8). -/
def Obligations.RelativeJumps : Prop :=
  (∀ s : State,
    s.holds ShortCond.NZ.toCond = !s.f.getLsbD 6 ∧ s.holds ShortCond.Z.toCond = s.f.getLsbD 6 ∧
    s.holds ShortCond.NC.toCond = !s.f.getLsbD 0 ∧ s.holds ShortCond.C.toCond = s.f.getLsbD 0) ∧
  FetchesOctet 0x18 .jr_e ∧ (∀ cc : ShortCond, FetchesOctet (fromXYZ 0 (4 + cc.code) 0) (fun e => (Form.jrIf cc e).instr)) ∧
  FetchesOctet 0x10 .djnz_e ∧
  (∀ (p : Word) (e : Octet), (relTarget p e).toNat = (((p.toNat : Int) + 2 + e.toInt) % 65536).toNat) ∧
  (∀ (e : Octet) (s : State), exec (.jr_e e) s = .next { s with pc := relTarget s.pc e, cycles := s.cycles + 12 }) ∧
  (∀ (cc : ShortCond) (e : Octet) (s : State),
    (s.holds cc.toCond = true → exec (Form.jrIf cc e).instr s = .next { s with pc := relTarget s.pc e, cycles := s.cycles + 12 }) ∧
    (s.holds cc.toCond = false → exec (Form.jrIf cc e).instr s = .next { s with pc := s.pc + 2, cycles := s.cycles + 7 })) ∧
  (∀ (e : Octet) (s : State), ∃ t, exec (.djnz_e e) s = .next t ∧ t.r8 .B = s.r8 .B - 1 ∧ t.r8 .C = s.r8 .C ∧
    t = { s with bc := t.bc, pc := if s.r8 .B = 1 then s.pc + 2 else relTarget s.pc e,
                 cycles := s.cycles + if s.r8 .B = 1 then 8 else 13 })

/-- CALL nn, CALL cc,nn, RST p (R260, R261, R264): the address of the next instruction is pushed, low octet at the new SP. The Bus is the
model's (log entry 4), the record too (log entry 8). -/
def Obligations.Calls : Prop :=
  FetchesWord 0xCD .call_nn ∧ (∀ cc : Cond, FetchesWord (fromXYZ 3 cc.code 4) (fun nn => (Form.callIf cc nn).instr)) ∧
  (∀ k : Fin 8, FetchesOne (fromXYZ 3 (BitVec.ofNat 8 k.val) 7) (Form.rst k).instr) ∧
  (∀ (nn : Word) (s : State), ∃ t, exec (.call_nn nn) s = .next t ∧
    (∀ b, t.peek b = if b = s.sp - 2 then lo (s.pc + 3) else if b = s.sp - 2 + 1 then hi (s.pc + 3) else s.peek b) ∧
    t = { s with pc := nn, sp := s.sp - 2, mem := t.mem, cycles := s.cycles + 17,
                 trace := s.trace ++ [.write (s.sp - 2) (lo (s.pc + 3)), .write (s.sp - 2 + 1) (hi (s.pc + 3))] }) ∧
  (∀ (cc : Cond) (nn : Word) (s : State),
    (s.holds cc = true → ∃ t, exec (Form.callIf cc nn).instr s = .next t ∧ exec (.call_nn nn) s = .next t) ∧
    (s.holds cc = false → exec (Form.callIf cc nn).instr s = .next { s with pc := s.pc + 3, cycles := s.cycles + 10 })) ∧
  (∀ (k : Fin 8) (s : State), ∃ t, exec (Form.rst k).instr s = .next t ∧ t.pc.toNat = k.val * 8 ∧
    (∀ b, t.peek b = if b = s.sp - 2 then lo (s.pc + 1) else if b = s.sp - 2 + 1 then hi (s.pc + 1) else s.peek b) ∧
    t = { s with pc := t.pc, sp := s.sp - 2, mem := t.mem, cycles := s.cycles + 11,
                 trace := s.trace ++ [.write (s.sp - 2) (lo (s.pc + 1)), .write (s.sp - 2 + 1) (hi (s.pc + 1))] })

/-- RET and RET cc (R262, R263): PC is popped; the enable bits are not touched; not taken, the stack is not read. The Bus is the model's
(log entry 4), the record too (log entry 8). -/
def Obligations.Returns : Prop :=
  FetchesOne 0xC9 .ret ∧ (∀ cc : Cond, FetchesOne (fromXYZ 3 cc.code 0) (Form.retIf cc).instr) ∧
  (∀ s : State, exec .ret s = .next
    { s with pc := mkWord (s.answer (s.sp + 1)) (s.answer s.sp), sp := s.sp + 2, cycles := s.cycles + 10,
             busAnswers := dropAnswer (dropAnswer s.busAnswers s.sp) (s.sp + 1),
             trace := s.trace ++ [.read s.sp (s.answer s.sp), .read (s.sp + 1) (s.answer (s.sp + 1))] }) ∧
  (∀ (cc : Cond) (s : State),
    (s.holds cc = true → exec (Form.retIf cc).instr s = .next
      { s with pc := mkWord (s.answer (s.sp + 1)) (s.answer s.sp), sp := s.sp + 2, cycles := s.cycles + 11,
               busAnswers := dropAnswer (dropAnswer s.busAnswers s.sp) (s.sp + 1),
               trace := s.trace ++ [.read s.sp (s.answer s.sp), .read (s.sp + 1) (s.answer (s.sp + 1))] }) ∧
    (s.holds cc = false → exec (Form.retIf cc).instr s = .next { s with pc := s.pc + 1, cycles := s.cycles + 5 }))

/-! ## System -/

/-- NOP, EI, DI (R280, R281, R282). -/
def Obligations.NopEnableDisable : Prop :=
  FetchesOne 0x00 .nop ∧ FetchesOne 0xFB .ei ∧ FetchesOne 0xF3 .di ∧
  ∀ s : State,
    exec .nop s = .next { s with pc := s.pc + 1, cycles := s.cycles + 4 } ∧
    exec .ei s = .next { s with iff1 := true, iff2 := true, eiFF := true, pc := s.pc + 1, cycles := s.cycles + 4 } ∧
    exec .di s = .next { s with iff1 := false, iff2 := false, pc := s.pc + 1, cycles := s.cycles + 4 }

/-- The Illegal sentinel ends in the IllegalOpcode fault and changes nothing (R283). One constructor stands for the seven octets (log entry
10). -/
def Obligations.IllegalFaults : Prop :=
  (∀ op : Octet, illegalByteOk op = true → FetchesOne op (.illegal op)) ∧
  ∀ (op : Octet) (s : State), exec (.illegal op) s = .fault (.illegalOpcode op s)

/-! ## The step -/

/-- When the bytes at PC decode to an instruction and no event is served, the step is that instruction's, after clearing EI_FF and after
exactly the reads of its octets in ascending order (R93, R305, R309). The Bus is the model's (log entry 4), the record too (log entry 8).
-/
def Obligations.StepRunsDecodedInstruction : Prop :=
  ∀ (s : State) (i : Instr) (rest : List Octet),
    s.resetReq = false → s.nmiFF = false → intAccepted s = false → decode (window s) = .ok (i, rest) →
    step s = exec i
      { s with eiFF := false, busAnswers := dropAnswers s.busAnswers ((fetchAddresses s).take (3 - rest.length)),
               trace := fetchReads (3 - rest.length) s }

/-- Stage 1 and the host's `reset()` (R301, R324, R350): the values given, nothing said of the seven pairs, CYCLES, the lines and memory
kept; the step clears the request and fetches nothing, the host's operation leaves the request. The seven pairs are free values (log entry
2). -/
def Obligations.ResetReinitialisesTheBank : Prop :=
  (∀ s : State, s.resetReq = true → ∃ t, step s = .next t ∧
    t = { s with af := 0xFFFF, sp := 0xFFFF, pc := 0x0000, iff1 := false, iff2 := false, nmiFF := false, intFF := s.intLine,
                 i := 0x00, im := .im0, eiFF := false, resetReq := false, trace := [], draws := t.draws,
                 bc := t.bc, de := t.de, hl := t.hl, af' := t.af', bc' := t.bc', de' := t.de', hl' := t.hl' }) ∧
  (∀ s : State,
    hostReset s = { s with af := 0xFFFF, sp := 0xFFFF, pc := 0x0000, iff1 := false, iff2 := false, nmiFF := false, intFF := s.intLine,
                           i := 0x00, im := .im0, eiFF := false, draws := (hostReset s).draws,
                           bc := (hostReset s).bc, de := (hostReset s).de, hl := (hostReset s).hl, af' := (hostReset s).af',
                           bc' := (hostReset s).bc', de' := (hostReset s).de', hl' := (hostReset s).hl' })

/-- Stage 2 (R302): whatever IFF1, IFF2 and EI_FF are, PC is pushed, IFF1 alone is cleared, PC is 0x0066, 11 T-cycles; no fetch, no
acknowledge. The Bus is the model's (log entry 4), the record too (log entry 8). -/
def Obligations.NmiEntry : Prop :=
  ∀ s : State, s.resetReq = false → s.nmiFF = true → ∃ t, step s = .next t ∧
    (∀ b, t.peek b = if b = s.sp - 2 then lo s.pc else if b = s.sp - 2 + 1 then hi s.pc else s.peek b) ∧
    t = { s with iff1 := false, nmiFF := false, pc := 0x0066, sp := s.sp - 2, mem := t.mem, cycles := s.cycles + 11,
                 trace := [.write (s.sp - 2) (lo s.pc), .write (s.sp - 2 + 1) (hi s.pc)] }

/-- Stage 3 in modes 1 and 2 (R304, R307, R308): both enables cleared, one acknowledge, PC pushed, then 0x0038 or the Word of I and the
octet acknowledged; INT_FF stays. The octet is the environment's next one, where it has supplied one. How octets are supplied is the model's
(log entry 3). The Bus is the model's (log entry 4), the record too (log entry 8). -/
def Obligations.VectoredInterruptEntry : Prop :=
  ∀ s : State, s.resetReq = false → s.nmiFF = false → s.intFF = true → s.iff1 = true → s.eiFF = false → s.im ≠ .im0 →
    ∃ (t : State) (v : Octet), step s = .next t ∧
      (∀ x q, s.ackQueue = x :: q → v = x ∧ t.ackQueue = q ∧ t.draws = s.draws) ∧
      (∀ b, t.peek b = if b = s.sp - 2 then lo s.pc else if b = s.sp - 2 + 1 then hi s.pc else s.peek b) ∧
      t = { s with iff1 := false, iff2 := false, sp := s.sp - 2, mem := t.mem, ackQueue := t.ackQueue, draws := t.draws,
                   pc := if s.im = .im1 then 0x0038 else mkWord s.i v,
                   cycles := s.cycles + if s.im = .im1 then 13 else 19,
                   trace := [.ack v, .write (s.sp - 2) (lo s.pc), .write (s.sp - 2 + 1) (hi s.pc)] }

/-- Stage 3 in mode 0 (R304, R306): the acknowledged octet is decoded with the octets at PC + 1 and PC + 2 as its operands and executed as
if fetched at PC, then 2 more T-cycles; a fault keeps the enables cleared and charges nothing. How octets are supplied is the model's (log
entry 3). The Bus is the model's (log entry 4), the record too (log entry 8). -/
def Obligations.ModeZeroExecutesAcknowledgedOpcode : Prop :=
  ∀ (s : State) (v : Octet) (q : List Octet) (i : Instr) (rest : List Octet),
    s.resetReq = false → s.nmiFF = false → s.intFF = true → s.iff1 = true → s.eiFF = false → s.im = .im0 →
    s.ackQueue = v :: q → decode [v, s.answer (s.pc + 1), s.answer (s.pc + 1 + 1)] = .ok (i, rest) →
    ∀ u : State,
      u = { s with iff1 := false, iff2 := false, ackQueue := q,
                   busAnswers := dropAnswers s.busAnswers (((fetchAddresses s).take (3 - rest.length)).drop 1),
                   trace := .ack v :: (fetchReads (3 - rest.length) s).drop 1 } →
      (∀ t, exec i u = .next t → step s = .next { t with cycles := t.cycles + 2 }) ∧
      (∀ r, exec i u = .fault r → step s = .fault r)

/-- The EI shadow (R281, R303, R305, R354; the Bus is that of log entry 4): after a step that executes EI, no interrupt is accepted in the next step; after that one
executes an instruction other than EI and DI, a pending interrupt is accepted. -/
def Obligations.EiShadowLastsOneInstruction : Prop :=
  ∀ s : State, s.resetReq = false → s.nmiFF = false → intAccepted s = false → s.answer s.pc = 0xFB →
    ∃ t, step s = .next t ∧ t.iff1 = true ∧ t.iff2 = true ∧ t.eiFF = true ∧ served t = .instruction ∧ t.intFF = s.intFF ∧
      ∀ i rest u, decode (window t) = .ok (i, rest) → i ≠ .ei → i ≠ .di → step t = .next u →
        u.eiFF = false ∧ u.iff1 = true ∧ (served u = .int ↔ s.intFF = true)

/-- An Illegal first byte at PC (R283, R310): the fault, with the state of before but for EI_FF; CYCLES, PC, registers and memory unchanged.
Not sticky: with no enabled INT pending, and the Bus answering the same octet again, the next step from there faults in the same way; an
enabled INT that EI had held off is served by the next step (R303, R305). The Bus is the model's (log entry 4), the record too (log entry
8). -/
def Obligations.IllegalStepIsNotSticky : Prop :=
  ∀ s : State, s.resetReq = false → s.nmiFF = false → intAccepted s = false → illegalByteOk (s.answer s.pc) = true →
    step s = .fault (.illegalOpcode (s.answer s.pc)
      { s with eiFF := false, busAnswers := dropAnswer s.busAnswers s.pc, trace := [.read s.pc (s.answer s.pc)] }) ∧
    ((s.intFF && s.iff1) = false → pendingAnswer s.busAnswers s.pc = none → step (stepOrFault s) = step s) ∧
    ((s.intFF && s.iff1) = true → served (stepOrFault s) = .int)

/-- With NMI and INT pending and interrupts enabled, a step serves the NMI only and leaves the INT pending, and the step after does not
accept it (R313). -/
def Obligations.NmiComesBeforeInt : Prop :=
  ∀ s : State, s.resetReq = false → s.nmiFF = true → s.intFF = true → s.iff1 = true →
    ∃ t, step s = .next t ∧ t.pc = 0x0066 ∧ t.cycles = s.cycles + 11 ∧ t.intFF = true ∧ t.nmiFF = false ∧
      served t = .instruction

/-- The event a step serves is the first in priority order (R300, R313); a step that serves none of the three runs the one instruction that
the octets at PC decode to (R309). The Bus is the model's (log entry 4), the record too (log entry 8). -/
def Obligations.StagesHavePriority : Prop :=
  ∀ s : State,
    (served s = .reset ↔ s.resetReq = true) ∧
    (served s = .nmi ↔ s.resetReq = false ∧ s.nmiFF = true) ∧
    (served s = .int ↔ s.resetReq = false ∧ s.nmiFF = false ∧ s.intFF = true ∧ s.iff1 = true ∧ s.eiFF = false) ∧
    (∀ t, step s = .next t → served s = .reset → t.cycles = s.cycles ∧ t.trace = []) ∧
    (∀ t, step s = .next t → served s = .nmi → t.trace.length = 2 ∧ t.cycles = s.cycles + 11) ∧
    (∀ t, step s = .next t → acknowledges t.trace = if served s = .int then 1 else 0) ∧
    (served s = .instruction → ∃ i rest, decode (window s) = .ok (i, rest) ∧ step s = exec i
      { s with eiFF := false, busAnswers := dropAnswers s.busAnswers ((fetchAddresses s).take (3 - rest.length)),
               trace := fetchReads (3 - rest.length) s })

/-- The host's operations on the reset request, the NMI line and the counter (R321, R322, R325, R326). -/
def Obligations.HostLatchOperations : Prop :=
  ∀ s : State,
    requestReset s = { s with resetReq := true } ∧
    setNmiLine true s = { s with nmiFF := if s.nmiLine = true then s.nmiFF else true, nmiLine := true } ∧
    setNmiLine false s = { s with nmiLine := false } ∧
    totalCycles s = s.cycles ∧ resetCycles s = { s with cycles := 0 }

/-- The state at creation (R52, R46, R47): the values the spec gives. Nothing is said of the seven pairs of R50, whose values are the
model's (log entry 1). -/
def Obligations.CreationState : Prop :=
  State.reset.af = 0xFFFF ∧ State.reset.sp = 0xFFFF ∧ State.reset.pc = 0x0000 ∧ State.reset.i = 0x00 ∧ State.reset.im = .im0 ∧
  State.reset.iff1 = false ∧ State.reset.iff2 = false ∧ State.reset.nmiFF = false ∧ State.reset.intFF = false ∧
  State.reset.eiFF = false ∧ State.reset.cycles = 0 ∧ State.reset.resetReq = false ∧ State.reset.nmiLine = false ∧
  State.reset.intLine = false

/-- A table word placed where the next step fetches is what that step runs, from every state (the model's own operation, log entry 9). -/
def Obligations.PlacedWordRunsNext : Prop :=
  ∀ (s : State) (nbits w : Nat) (i : Instr), decodeTableWord nbits w = some i →
    ∃ u : State, step (s.withFetchWord nbits w) = exec i u ∧
      u = { s with resetReq := false, nmiFF := false, eiFF := false, mem := u.mem, busAnswers := u.busAnswers,
                   trace := u.trace } ∧
      (∀ b, b ≠ s.pc → b ≠ s.pc + 1 → b ≠ s.pc + 2 → u.peek b = s.peek b ∧
        pendingAnswer u.busAnswers b = pendingAnswer s.busAnswers b)

/-! ## The whole machine -/

/-- The invariant holds in the state at creation. The memory form is the model's (log entry 5). -/
def Obligations.InvHoldsAtReset : Prop := StateInv State.reset

/-- Every step keeps the invariant: canonical memory, INT_FF the level of the line, IFF1 and EI_FF never set without IFF2. The memory form
is the model's (log entry 5). -/
def Obligations.StepKeepsInv : Prop := ∀ s t : State, StateInv s → step s = .next t → StateInv t

/-- The invariant holds after every sequence of steps (those that fault included) and environment moves that do not write its flip-flops
directly. Events come only between steps (log entry 7). -/
def Obligations.RegularRunsKeepInv : Prop :=
  ∀ (es : List Event) (s : State), StateInv s → (∀ e ∈ es, regularEvent e = true) → StateInv (runEvents es s)

/-- The frame of every instruction: registers, flags (R28), SP, the shadow pairs (R25), the enables and every octet of memory outside what
the form writes are as before; I, IM, the pending bits, the request latches and the acknowledge queue are never written,
and no answer pending for an address that the form does not read is taken. The Bus is the model's (log entry 4). -/
def Obligations.InstructionFrame : Prop :=
  ∀ (f : Form) (s t : State), exec f.instr s = .next t →
    (∀ r, r ∉ writesReg f → t.r8 r = s.r8 r) ∧
    t.f &&& ~~~writesFlags f = s.f &&& ~~~writesFlags f ∧
    (writesSP f = false → t.sp = s.sp) ∧
    (f ≠ .exAF → t.af' = s.af') ∧
    (f ≠ .exx → t.bc' = s.bc' ∧ t.de' = s.de' ∧ t.hl' = s.hl') ∧
    (f ≠ .ei → f ≠ .di → t.iff1 = s.iff1 ∧ t.iff2 = s.iff2) ∧ (f ≠ .ei → t.eiFF = s.eiFF) ∧
    t.i = s.i ∧ t.im = s.im ∧ t.nmiFF = s.nmiFF ∧ t.intFF = s.intFF ∧ t.resetReq = s.resetReq ∧
    t.nmiLine = s.nmiLine ∧ t.intLine = s.intLine ∧ t.ackQueue = s.ackQueue ∧ t.draws = s.draws ∧
    (∀ b, b ∉ storesTo f s → t.peek b = s.peek b) ∧
    (∀ b, b ∉ loadsFrom f s → pendingAnswer t.busAnswers b = pendingAnswer s.busAnswers b)

/-- Among steps (those that fault included), I and IM are written by a reset step alone, INT_FF is changed by a reset step alone, NMI_FF and
RESET_REQ are set by none and RESET_REQ is cleared by a reset step alone, and none writes the line latches (R32, R35, R36, R38, R39, R41).
Of the host's operations `reset()` leaves the line latches, and `setIntLine` writes the INT line and INT_FF only (R323, R324); the host's
register writes (R44) are not bound by this. -/
def Obligations.ControlStateHasFewWriters : Prop :=
  (∀ s t : State, (step s = .next t ∨ ∃ op, step s = .fault (.illegalOpcode op t)) →
    t.nmiLine = s.nmiLine ∧ t.intLine = s.intLine ∧
    (served s ≠ .reset → t.i = s.i ∧ t.im = s.im ∧ t.intFF = s.intFF ∧ t.resetReq = s.resetReq) ∧
    (t.nmiFF = true → s.nmiFF = true) ∧ (t.resetReq = true → s.resetReq = true)) ∧
  (∀ s : State, (hostReset s).nmiLine = s.nmiLine ∧ (hostReset s).intLine = s.intLine) ∧
  (∀ (s : State) (b : Bool), setIntLine b s = { s with intLine := b, intFF := b })

/-- CYCLES is telemetry: no step's outcome depends on it, but for CYCLES itself (R40). -/
def Obligations.CyclesAreTelemetry : Prop :=
  ∀ (s : State) (n : BitVec 64), mapOutcome forgetCycles (step { s with cycles := n }) = mapOutcome forgetCycles (step s)

/-- No step reads IFF2: its outcome does not depend on it, but for IFF2 itself (R34). -/
def Obligations.SavedEnableIsNeverRead : Prop :=
  ∀ (s : State) (b : Bool), mapOutcome forgetIFF2 (step { s with iff2 := b }) = mapOutcome forgetIFF2 (step s)

/-- The bus operations of a step account for its memory and for the answers it took: each read returned the oldest answer pending for its
address, or else what memory held at that moment, and the writes in order give the memory after (R62, R63, R73, R76). The Bus is the
model's (log entry 4), the record too (log entry 8). -/
def Obligations.BusRecordExplainsMemory : Prop :=
  ∀ s t : State, step s = .next t → replay s.mem s.busAnswers t.trace = some (t.mem, t.busAnswers)

/-- Within a step all reads come before all writes, and no step makes more than five bus operations (R69). The record is the model's (log
entry 8). -/
def Obligations.ReadsComeBeforeWrites : Prop :=
  ∀ s t : State, step s = .next t → readsBeforeWrites t.trace = true ∧ t.trace.length ≤ 5

/-- A step answers a next state or the IllegalOpcode fault of one of the seven octets, and the fault charges no cycles and moves no PC
(R310). -/
def Obligations.OnlyIllegalOpcodesFault : Prop :=
  ∀ s : State,
    (∃ t, step s = .next t) ∨
    (∃ op t, step s = .fault (.illegalOpcode op t) ∧ illegalByteOk op = true ∧
      t = { s with eiFF := t.eiFF, iff1 := t.iff1, iff2 := t.iff2, busAnswers := t.busAnswers, ackQueue := t.ackQueue,
                   draws := t.draws, trace := t.trace })
end

