-- ==== Sys2Proof/Laws/Bits.lean ====
section
/-! SUPPORT. The halves of a Word (R21, R24). -/

namespace Sys2Proof

@[simp] theorem hi_mkWord (h l : Octet) : hi (mkWord h l) = h := by
  unfold hi mkWord
  ext k hk
  simp only [BitVec.getElem_extractLsb', BitVec.getLsbD_append]
  simp [hk]

@[simp] theorem lo_mkWord (h l : Octet) : lo (mkWord h l) = l := by
  unfold lo mkWord
  ext k hk
  simp only [BitVec.getElem_extractLsb', BitVec.getLsbD_append]
  simp [hk]

@[simp] theorem mkWord_hi_lo (w : Word) : mkWord (hi w) (lo w) = w := by
  apply BitVec.eq_of_getLsbD_eq
  intro k hk
  unfold hi lo mkWord
  simp only [BitVec.getLsbD_append, BitVec.getLsbD_extractLsb']
  by_cases h : k < 8
  · simp [h]
  · have : k - 8 < 8 := by omega
    have e : 8 + (k - 8) = k := by omega
    simp [h, this, e]

@[simp] theorem hi_withHi (w : Word) (v : Octet) : hi (withHi w v) = v := by simp [withHi]
@[simp] theorem lo_withHi (w : Word) (v : Octet) : lo (withHi w v) = lo w := by simp [withHi]
@[simp] theorem hi_withLo (w : Word) (v : Octet) : hi (withLo w v) = hi w := by simp [withLo]
@[simp] theorem lo_withLo (w : Word) (v : Octet) : lo (withLo w v) = v := by simp [withLo]

theorem word_ext {v w : Word} (h : hi v = hi w) (l : lo v = lo w) : v = w := by
  rw [← mkWord_hi_lo v, ← mkWord_hi_lo w, h, l]

/-- An address and the next one differ. -/
@[simp] theorem succ_ne_self (a : Word) : a + 1 ≠ a := by
  intro h
  have h1 : (1 : Word) = 0 := by simpa using congrArg (fun x => x - a) h
  exact absurd h1 (by decide)

end Sys2Proof
end

