-- ==== Sys2Proof/Laws/Decode.lean ====
section
/-! SUPPORT. What the decoder does, said once by the format of the first byte (R91), and how a property of all first bytes is proved. -/

namespace Sys2Proof

/-- A property of all octets is a property of the numbers below 256. -/
theorem forall_octet {P : Octet → Prop} (h : ∀ n : Fin 256, P (BitVec.ofFin n)) (x : Octet) : P x := h x.toFin

theorem decode_op {op : Octet} {i : Instr} (h : dispatch op = .op i) (r : List Octet) : decode (op :: r) = .ok (i, r) := by
  simp [decode, h]

theorem decode_opN {op : Octet} {f : Octet → Instr} (h : dispatch op = .opN f) (n : Octet) (r : List Octet) :
    decode (op :: n :: r) = .ok (f n, r) := by
  simp [decode, h]

theorem decode_opE {op : Octet} {f : Octet → Instr} (h : dispatch op = .opE f) (e : Octet) (r : List Octet) :
    decode (op :: e :: r) = .ok (f e, r) := by
  simp [decode, h]

theorem decode_opNN {op : Octet} {f : Word → Instr} (h : dispatch op = .opNN f) (l k : Octet) (r : List Octet) :
    decode (op :: l :: k :: r) = .ok (f (mkWord k l), r) := by
  simp [decode, h]

/-- Everything that an accepted list of bytes can be. -/
theorem decode_cases {bytes rest : List Octet} {i : Instr} (h : decode bytes = .ok (i, rest)) :
    (∃ op, dispatch op = .op i ∧ bytes = op :: rest) ∨
    (∃ op f n, (dispatch op = .opN f ∨ dispatch op = .opE f) ∧ i = f n ∧ bytes = op :: n :: rest) ∨
    (∃ op f l k, dispatch op = .opNN f ∧ i = f (mkWord k l) ∧ bytes = op :: l :: k :: rest) := by
  rcases bytes with _ | ⟨op, r⟩
  · simp [decode] at h
  · rcases hd : dispatch op with j | f | f | f
    · rw [decode_op hd] at h
      cases h
      exact .inl ⟨op, hd, rfl⟩
    · rcases r with _ | ⟨n, r⟩
      · simp [decode, hd] at h
      · rw [decode_opN hd] at h
        cases h
        exact .inr (.inl ⟨op, f, n, .inl hd, rfl, rfl⟩)
    · rcases r with _ | ⟨n, r⟩
      · simp [decode, hd] at h
      · rw [decode_opE hd] at h
        cases h
        exact .inr (.inl ⟨op, f, n, .inr hd, rfl, rfl⟩)
    · rcases r with _ | ⟨l, _ | ⟨k, r⟩⟩
      · simp [decode, hd] at h
      · simp [decode, hd] at h
      · rw [decode_opNN hd] at h
        cases h
        exact .inr (.inr ⟨op, f, l, k, hd, rfl, rfl⟩)

end Sys2Proof
end

