-- ==== Sys2Proof/Laws/Flags.lean ====
section
/-! SUPPORT. Affections: which flags one touches, and that applying it leaves every other flag (R121, R122, R123). -/

namespace Sys2Proof.Machine

/-- One bit of F after an affection: R122 bit by bit. -/
theorem applyAff_bit (x : Affection) (f : Octet) {k : Nat} (h : k < 8) :
    (applyAff x f).getLsbD k = ((f.getLsbD k || x.set.getLsbD k) && !x.clear.getLsbD k) := by
  simp only [applyAff, BitVec.getLsbD_and, BitVec.getLsbD_or, BitVec.getLsbD_not]
  simp [h]

/-- An affection leaves the flags of a mask that it does not touch. -/
theorem applyAff_keeps {x : Affection} {m : Octet} (f : Octet) (h : (x.set ||| x.clear) &&& m = 0) :
    applyAff x f &&& m = f &&& m := by
  apply BitVec.eq_of_getLsbD_eq
  intro k hk
  have hb : ((x.set.getLsbD k || x.clear.getLsbD k) && m.getLsbD k) = false := by
    rw [← BitVec.getLsbD_or, ← BitVec.getLsbD_and, h]
    exact BitVec.getLsbD_zero
  rw [BitVec.getLsbD_and, BitVec.getLsbD_and, applyAff_bit x f hk]
  revert hb
  cases x.set.getLsbD k <;> cases x.clear.getLsbD k <;> cases m.getLsbD k <;> cases f.getLsbD k <;> decide

/-- `Aff(mask, value)` touches the flags of the mask. -/
theorem aff_touches (mask value : Octet) : (aff mask value).set ||| (aff mask value).clear = mask := by
  apply BitVec.eq_of_getLsbD_eq
  intro k hk
  simp only [aff, BitVec.getLsbD_or, BitVec.getLsbD_and, BitVec.getLsbD_not]
  cases value.getLsbD k <;> cases mask.getLsbD k <;> simp [hk]

/-- A composition touches what either touches. -/
theorem overlay_touches (l r : Affection) :
    (overlay l r).set ||| (overlay l r).clear = (l.set ||| l.clear) ||| (r.set ||| r.clear) := by
  apply BitVec.eq_of_getLsbD_eq
  intro k hk
  simp only [overlay, BitVec.getLsbD_or, BitVec.getLsbD_and, BitVec.getLsbD_not]
  cases l.set.getLsbD k <;> cases l.clear.getLsbD k <;> cases r.set.getLsbD k <;> cases r.clear.getLsbD k <;> simp [hk]

/-! ## What each table touches (R126 to R135, R214 to R221) -/

theorem inc8_touches (a : Octet) : (inc8 a).2.set ||| (inc8 a).2.clear = 0xFE := aff_touches _ _

theorem dec8_touches (a : Octet) : (dec8 a).2.set ||| (dec8 a).2.clear = 0xFE := aff_touches _ _

theorem add16_touches (a b : Word) : (add16 a b).2.set ||| (add16 a b).2.clear = 0x3B := aff_touches _ _

theorem rotateFlags_touches (v : Octet) (c : Bool) : (rotateFlags v c).set ||| (rotateFlags v c).clear = 0x3B := by
  rw [rotateFlags, overlay_touches, rotAFlags, aff_touches, aff_touches]
  rfl

theorem daa_touches (a : Octet) (h n c : Bool) : (daa a h n c).2.set ||| (daa a h n c).2.clear = 0xFD := by
  show (overlay _ _).set ||| (overlay _ _).clear = _
  rw [overlay_touches, intrinsic, aff_touches, aff_touches]
  rfl

theorem cplFlags_touches (v : Octet) : (cplFlags v).set ||| (cplFlags v).clear = 0x3A := aff_touches _ _

theorem scfFlags_touches (v : Octet) : (scfFlags v).set ||| (scfFlags v).clear = 0x3B := aff_touches _ _

theorem ccfFlags_touches (v : Octet) (c : Bool) : (ccfFlags v c).set ||| (ccfFlags v c).clear = 0x3B := aff_touches _ _

end Sys2Proof.Machine
end

