-- ==== Sys2Proof/Laws/State.lean ====
section
/-! SUPPORT. One lemma per field and per update of State, so that no proof unfolds an update. -/

namespace Sys2Proof.Machine

/-! ## setF -/

@[simp] theorem setF_bc (s : State) (v : Octet) : (s.setF v).bc = s.bc := rfl
@[simp] theorem setF_de (s : State) (v : Octet) : (s.setF v).de = s.de := rfl
@[simp] theorem setF_hl (s : State) (v : Octet) : (s.setF v).hl = s.hl := rfl
@[simp] theorem setF_af' (s : State) (v : Octet) : (s.setF v).af' = s.af' := rfl
@[simp] theorem setF_bc' (s : State) (v : Octet) : (s.setF v).bc' = s.bc' := rfl
@[simp] theorem setF_de' (s : State) (v : Octet) : (s.setF v).de' = s.de' := rfl
@[simp] theorem setF_hl' (s : State) (v : Octet) : (s.setF v).hl' = s.hl' := rfl
@[simp] theorem setF_pc (s : State) (v : Octet) : (s.setF v).pc = s.pc := rfl
@[simp] theorem setF_sp (s : State) (v : Octet) : (s.setF v).sp = s.sp := rfl
@[simp] theorem setF_i (s : State) (v : Octet) : (s.setF v).i = s.i := rfl
@[simp] theorem setF_iff1 (s : State) (v : Octet) : (s.setF v).iff1 = s.iff1 := rfl
@[simp] theorem setF_iff2 (s : State) (v : Octet) : (s.setF v).iff2 = s.iff2 := rfl
@[simp] theorem setF_nmiFF (s : State) (v : Octet) : (s.setF v).nmiFF = s.nmiFF := rfl
@[simp] theorem setF_intFF (s : State) (v : Octet) : (s.setF v).intFF = s.intFF := rfl
@[simp] theorem setF_eiFF (s : State) (v : Octet) : (s.setF v).eiFF = s.eiFF := rfl
@[simp] theorem setF_im (s : State) (v : Octet) : (s.setF v).im = s.im := rfl
@[simp] theorem setF_cycles (s : State) (v : Octet) : (s.setF v).cycles = s.cycles := rfl
@[simp] theorem setF_resetReq (s : State) (v : Octet) : (s.setF v).resetReq = s.resetReq := rfl
@[simp] theorem setF_nmiLine (s : State) (v : Octet) : (s.setF v).nmiLine = s.nmiLine := rfl
@[simp] theorem setF_intLine (s : State) (v : Octet) : (s.setF v).intLine = s.intLine := rfl
@[simp] theorem setF_mem (s : State) (v : Octet) : (s.setF v).mem = s.mem := rfl
@[simp] theorem setF_busAnswers (s : State) (v : Octet) : (s.setF v).busAnswers = s.busAnswers := rfl
@[simp] theorem setF_ackQueue (s : State) (v : Octet) : (s.setF v).ackQueue = s.ackQueue := rfl
@[simp] theorem setF_draws (s : State) (v : Octet) : (s.setF v).draws = s.draws := rfl
@[simp] theorem setF_trace (s : State) (v : Octet) : (s.setF v).trace = s.trace := rfl
@[simp] theorem setF_af (s : State) (v : Octet) : (s.setF v).af = withLo s.af v := rfl

/-! ## affect -/

@[simp] theorem affect_bc (s : State) (x : Affection) : (s.affect x).bc = s.bc := rfl
@[simp] theorem affect_de (s : State) (x : Affection) : (s.affect x).de = s.de := rfl
@[simp] theorem affect_hl (s : State) (x : Affection) : (s.affect x).hl = s.hl := rfl
@[simp] theorem affect_af' (s : State) (x : Affection) : (s.affect x).af' = s.af' := rfl
@[simp] theorem affect_bc' (s : State) (x : Affection) : (s.affect x).bc' = s.bc' := rfl
@[simp] theorem affect_de' (s : State) (x : Affection) : (s.affect x).de' = s.de' := rfl
@[simp] theorem affect_hl' (s : State) (x : Affection) : (s.affect x).hl' = s.hl' := rfl
@[simp] theorem affect_pc (s : State) (x : Affection) : (s.affect x).pc = s.pc := rfl
@[simp] theorem affect_sp (s : State) (x : Affection) : (s.affect x).sp = s.sp := rfl
@[simp] theorem affect_i (s : State) (x : Affection) : (s.affect x).i = s.i := rfl
@[simp] theorem affect_iff1 (s : State) (x : Affection) : (s.affect x).iff1 = s.iff1 := rfl
@[simp] theorem affect_iff2 (s : State) (x : Affection) : (s.affect x).iff2 = s.iff2 := rfl
@[simp] theorem affect_nmiFF (s : State) (x : Affection) : (s.affect x).nmiFF = s.nmiFF := rfl
@[simp] theorem affect_intFF (s : State) (x : Affection) : (s.affect x).intFF = s.intFF := rfl
@[simp] theorem affect_eiFF (s : State) (x : Affection) : (s.affect x).eiFF = s.eiFF := rfl
@[simp] theorem affect_im (s : State) (x : Affection) : (s.affect x).im = s.im := rfl
@[simp] theorem affect_cycles (s : State) (x : Affection) : (s.affect x).cycles = s.cycles := rfl
@[simp] theorem affect_resetReq (s : State) (x : Affection) : (s.affect x).resetReq = s.resetReq := rfl
@[simp] theorem affect_nmiLine (s : State) (x : Affection) : (s.affect x).nmiLine = s.nmiLine := rfl
@[simp] theorem affect_intLine (s : State) (x : Affection) : (s.affect x).intLine = s.intLine := rfl
@[simp] theorem affect_mem (s : State) (x : Affection) : (s.affect x).mem = s.mem := rfl
@[simp] theorem affect_busAnswers (s : State) (x : Affection) : (s.affect x).busAnswers = s.busAnswers := rfl
@[simp] theorem affect_ackQueue (s : State) (x : Affection) : (s.affect x).ackQueue = s.ackQueue := rfl
@[simp] theorem affect_draws (s : State) (x : Affection) : (s.affect x).draws = s.draws := rfl
@[simp] theorem affect_trace (s : State) (x : Affection) : (s.affect x).trace = s.trace := rfl
@[simp] theorem affect_af (s : State) (x : Affection) : (s.affect x).af = withLo s.af (applyAff x s.f) := rfl

/-! ## setR8 -/

@[simp] theorem setR8_af' (s : State) (r : Reg8) (v : Octet) : (s.setR8 r v).af' = s.af' := by cases r <;> rfl
@[simp] theorem setR8_bc' (s : State) (r : Reg8) (v : Octet) : (s.setR8 r v).bc' = s.bc' := by cases r <;> rfl
@[simp] theorem setR8_de' (s : State) (r : Reg8) (v : Octet) : (s.setR8 r v).de' = s.de' := by cases r <;> rfl
@[simp] theorem setR8_hl' (s : State) (r : Reg8) (v : Octet) : (s.setR8 r v).hl' = s.hl' := by cases r <;> rfl
@[simp] theorem setR8_pc (s : State) (r : Reg8) (v : Octet) : (s.setR8 r v).pc = s.pc := by cases r <;> rfl
@[simp] theorem setR8_sp (s : State) (r : Reg8) (v : Octet) : (s.setR8 r v).sp = s.sp := by cases r <;> rfl
@[simp] theorem setR8_i (s : State) (r : Reg8) (v : Octet) : (s.setR8 r v).i = s.i := by cases r <;> rfl
@[simp] theorem setR8_iff1 (s : State) (r : Reg8) (v : Octet) : (s.setR8 r v).iff1 = s.iff1 := by cases r <;> rfl
@[simp] theorem setR8_iff2 (s : State) (r : Reg8) (v : Octet) : (s.setR8 r v).iff2 = s.iff2 := by cases r <;> rfl
@[simp] theorem setR8_nmiFF (s : State) (r : Reg8) (v : Octet) : (s.setR8 r v).nmiFF = s.nmiFF := by cases r <;> rfl
@[simp] theorem setR8_intFF (s : State) (r : Reg8) (v : Octet) : (s.setR8 r v).intFF = s.intFF := by cases r <;> rfl
@[simp] theorem setR8_eiFF (s : State) (r : Reg8) (v : Octet) : (s.setR8 r v).eiFF = s.eiFF := by cases r <;> rfl
@[simp] theorem setR8_im (s : State) (r : Reg8) (v : Octet) : (s.setR8 r v).im = s.im := by cases r <;> rfl
@[simp] theorem setR8_cycles (s : State) (r : Reg8) (v : Octet) : (s.setR8 r v).cycles = s.cycles := by cases r <;> rfl
@[simp] theorem setR8_resetReq (s : State) (r : Reg8) (v : Octet) : (s.setR8 r v).resetReq = s.resetReq := by cases r <;> rfl
@[simp] theorem setR8_nmiLine (s : State) (r : Reg8) (v : Octet) : (s.setR8 r v).nmiLine = s.nmiLine := by cases r <;> rfl
@[simp] theorem setR8_intLine (s : State) (r : Reg8) (v : Octet) : (s.setR8 r v).intLine = s.intLine := by cases r <;> rfl
@[simp] theorem setR8_mem (s : State) (r : Reg8) (v : Octet) : (s.setR8 r v).mem = s.mem := by cases r <;> rfl
@[simp] theorem setR8_busAnswers (s : State) (r : Reg8) (v : Octet) : (s.setR8 r v).busAnswers = s.busAnswers := by cases r <;> rfl
@[simp] theorem setR8_ackQueue (s : State) (r : Reg8) (v : Octet) : (s.setR8 r v).ackQueue = s.ackQueue := by cases r <;> rfl
@[simp] theorem setR8_draws (s : State) (r : Reg8) (v : Octet) : (s.setR8 r v).draws = s.draws := by cases r <;> rfl
@[simp] theorem setR8_trace (s : State) (r : Reg8) (v : Octet) : (s.setR8 r v).trace = s.trace := by cases r <;> rfl

/-! ## setR16 -/

@[simp] theorem setR16_af (s : State) (p : Pair) (w : Word) : (s.setR16 p w).af = s.af := by cases p <;> rfl
@[simp] theorem setR16_af' (s : State) (p : Pair) (w : Word) : (s.setR16 p w).af' = s.af' := by cases p <;> rfl
@[simp] theorem setR16_bc' (s : State) (p : Pair) (w : Word) : (s.setR16 p w).bc' = s.bc' := by cases p <;> rfl
@[simp] theorem setR16_de' (s : State) (p : Pair) (w : Word) : (s.setR16 p w).de' = s.de' := by cases p <;> rfl
@[simp] theorem setR16_hl' (s : State) (p : Pair) (w : Word) : (s.setR16 p w).hl' = s.hl' := by cases p <;> rfl
@[simp] theorem setR16_pc (s : State) (p : Pair) (w : Word) : (s.setR16 p w).pc = s.pc := by cases p <;> rfl
@[simp] theorem setR16_i (s : State) (p : Pair) (w : Word) : (s.setR16 p w).i = s.i := by cases p <;> rfl
@[simp] theorem setR16_iff1 (s : State) (p : Pair) (w : Word) : (s.setR16 p w).iff1 = s.iff1 := by cases p <;> rfl
@[simp] theorem setR16_iff2 (s : State) (p : Pair) (w : Word) : (s.setR16 p w).iff2 = s.iff2 := by cases p <;> rfl
@[simp] theorem setR16_nmiFF (s : State) (p : Pair) (w : Word) : (s.setR16 p w).nmiFF = s.nmiFF := by cases p <;> rfl
@[simp] theorem setR16_intFF (s : State) (p : Pair) (w : Word) : (s.setR16 p w).intFF = s.intFF := by cases p <;> rfl
@[simp] theorem setR16_eiFF (s : State) (p : Pair) (w : Word) : (s.setR16 p w).eiFF = s.eiFF := by cases p <;> rfl
@[simp] theorem setR16_im (s : State) (p : Pair) (w : Word) : (s.setR16 p w).im = s.im := by cases p <;> rfl
@[simp] theorem setR16_cycles (s : State) (p : Pair) (w : Word) : (s.setR16 p w).cycles = s.cycles := by cases p <;> rfl
@[simp] theorem setR16_resetReq (s : State) (p : Pair) (w : Word) : (s.setR16 p w).resetReq = s.resetReq := by cases p <;> rfl
@[simp] theorem setR16_nmiLine (s : State) (p : Pair) (w : Word) : (s.setR16 p w).nmiLine = s.nmiLine := by cases p <;> rfl
@[simp] theorem setR16_intLine (s : State) (p : Pair) (w : Word) : (s.setR16 p w).intLine = s.intLine := by cases p <;> rfl
@[simp] theorem setR16_mem (s : State) (p : Pair) (w : Word) : (s.setR16 p w).mem = s.mem := by cases p <;> rfl
@[simp] theorem setR16_busAnswers (s : State) (p : Pair) (w : Word) : (s.setR16 p w).busAnswers = s.busAnswers := by cases p <;> rfl
@[simp] theorem setR16_ackQueue (s : State) (p : Pair) (w : Word) : (s.setR16 p w).ackQueue = s.ackQueue := by cases p <;> rfl
@[simp] theorem setR16_draws (s : State) (p : Pair) (w : Word) : (s.setR16 p w).draws = s.draws := by cases p <;> rfl
@[simp] theorem setR16_trace (s : State) (p : Pair) (w : Word) : (s.setR16 p w).trace = s.trace := by cases p <;> rfl

/-! ## setRqq -/

@[simp] theorem setRqq_af' (s : State) (q : StackPair) (w : Word) : (s.setRqq q w).af' = s.af' := by cases q <;> rfl
@[simp] theorem setRqq_bc' (s : State) (q : StackPair) (w : Word) : (s.setRqq q w).bc' = s.bc' := by cases q <;> rfl
@[simp] theorem setRqq_de' (s : State) (q : StackPair) (w : Word) : (s.setRqq q w).de' = s.de' := by cases q <;> rfl
@[simp] theorem setRqq_hl' (s : State) (q : StackPair) (w : Word) : (s.setRqq q w).hl' = s.hl' := by cases q <;> rfl
@[simp] theorem setRqq_pc (s : State) (q : StackPair) (w : Word) : (s.setRqq q w).pc = s.pc := by cases q <;> rfl
@[simp] theorem setRqq_sp (s : State) (q : StackPair) (w : Word) : (s.setRqq q w).sp = s.sp := by cases q <;> rfl
@[simp] theorem setRqq_i (s : State) (q : StackPair) (w : Word) : (s.setRqq q w).i = s.i := by cases q <;> rfl
@[simp] theorem setRqq_iff1 (s : State) (q : StackPair) (w : Word) : (s.setRqq q w).iff1 = s.iff1 := by cases q <;> rfl
@[simp] theorem setRqq_iff2 (s : State) (q : StackPair) (w : Word) : (s.setRqq q w).iff2 = s.iff2 := by cases q <;> rfl
@[simp] theorem setRqq_nmiFF (s : State) (q : StackPair) (w : Word) : (s.setRqq q w).nmiFF = s.nmiFF := by cases q <;> rfl
@[simp] theorem setRqq_intFF (s : State) (q : StackPair) (w : Word) : (s.setRqq q w).intFF = s.intFF := by cases q <;> rfl
@[simp] theorem setRqq_eiFF (s : State) (q : StackPair) (w : Word) : (s.setRqq q w).eiFF = s.eiFF := by cases q <;> rfl
@[simp] theorem setRqq_im (s : State) (q : StackPair) (w : Word) : (s.setRqq q w).im = s.im := by cases q <;> rfl
@[simp] theorem setRqq_cycles (s : State) (q : StackPair) (w : Word) : (s.setRqq q w).cycles = s.cycles := by cases q <;> rfl
@[simp] theorem setRqq_resetReq (s : State) (q : StackPair) (w : Word) : (s.setRqq q w).resetReq = s.resetReq := by cases q <;> rfl
@[simp] theorem setRqq_nmiLine (s : State) (q : StackPair) (w : Word) : (s.setRqq q w).nmiLine = s.nmiLine := by cases q <;> rfl
@[simp] theorem setRqq_intLine (s : State) (q : StackPair) (w : Word) : (s.setRqq q w).intLine = s.intLine := by cases q <;> rfl
@[simp] theorem setRqq_mem (s : State) (q : StackPair) (w : Word) : (s.setRqq q w).mem = s.mem := by cases q <;> rfl
@[simp] theorem setRqq_busAnswers (s : State) (q : StackPair) (w : Word) : (s.setRqq q w).busAnswers = s.busAnswers := by cases q <;> rfl
@[simp] theorem setRqq_ackQueue (s : State) (q : StackPair) (w : Word) : (s.setRqq q w).ackQueue = s.ackQueue := by cases q <;> rfl
@[simp] theorem setRqq_draws (s : State) (q : StackPair) (w : Word) : (s.setRqq q w).draws = s.draws := by cases q <;> rfl
@[simp] theorem setRqq_trace (s : State) (q : StackPair) (w : Word) : (s.setRqq q w).trace = s.trace := by cases q <;> rfl

/-! ## charge -/

@[simp] theorem charge_af (n : BitVec 64) (s : State) : (charge n s).af = s.af := rfl
@[simp] theorem charge_bc (n : BitVec 64) (s : State) : (charge n s).bc = s.bc := rfl
@[simp] theorem charge_de (n : BitVec 64) (s : State) : (charge n s).de = s.de := rfl
@[simp] theorem charge_hl (n : BitVec 64) (s : State) : (charge n s).hl = s.hl := rfl
@[simp] theorem charge_af' (n : BitVec 64) (s : State) : (charge n s).af' = s.af' := rfl
@[simp] theorem charge_bc' (n : BitVec 64) (s : State) : (charge n s).bc' = s.bc' := rfl
@[simp] theorem charge_de' (n : BitVec 64) (s : State) : (charge n s).de' = s.de' := rfl
@[simp] theorem charge_hl' (n : BitVec 64) (s : State) : (charge n s).hl' = s.hl' := rfl
@[simp] theorem charge_pc (n : BitVec 64) (s : State) : (charge n s).pc = s.pc := rfl
@[simp] theorem charge_sp (n : BitVec 64) (s : State) : (charge n s).sp = s.sp := rfl
@[simp] theorem charge_i (n : BitVec 64) (s : State) : (charge n s).i = s.i := rfl
@[simp] theorem charge_iff1 (n : BitVec 64) (s : State) : (charge n s).iff1 = s.iff1 := rfl
@[simp] theorem charge_iff2 (n : BitVec 64) (s : State) : (charge n s).iff2 = s.iff2 := rfl
@[simp] theorem charge_nmiFF (n : BitVec 64) (s : State) : (charge n s).nmiFF = s.nmiFF := rfl
@[simp] theorem charge_intFF (n : BitVec 64) (s : State) : (charge n s).intFF = s.intFF := rfl
@[simp] theorem charge_eiFF (n : BitVec 64) (s : State) : (charge n s).eiFF = s.eiFF := rfl
@[simp] theorem charge_im (n : BitVec 64) (s : State) : (charge n s).im = s.im := rfl
@[simp] theorem charge_resetReq (n : BitVec 64) (s : State) : (charge n s).resetReq = s.resetReq := rfl
@[simp] theorem charge_nmiLine (n : BitVec 64) (s : State) : (charge n s).nmiLine = s.nmiLine := rfl
@[simp] theorem charge_intLine (n : BitVec 64) (s : State) : (charge n s).intLine = s.intLine := rfl
@[simp] theorem charge_mem (n : BitVec 64) (s : State) : (charge n s).mem = s.mem := rfl
@[simp] theorem charge_busAnswers (n : BitVec 64) (s : State) : (charge n s).busAnswers = s.busAnswers := rfl
@[simp] theorem charge_ackQueue (n : BitVec 64) (s : State) : (charge n s).ackQueue = s.ackQueue := rfl
@[simp] theorem charge_draws (n : BitVec 64) (s : State) : (charge n s).draws = s.draws := rfl
@[simp] theorem charge_trace (n : BitVec 64) (s : State) : (charge n s).trace = s.trace := rfl
@[simp] theorem charge_cycles (n : BitVec 64) (s : State) : (charge n s).cycles = s.cycles + n := rfl

/-! ## retire -/

@[simp] theorem retire_af (l : Word) (n : BitVec 64) (s : State) : (retire l n s).af = s.af := rfl
@[simp] theorem retire_bc (l : Word) (n : BitVec 64) (s : State) : (retire l n s).bc = s.bc := rfl
@[simp] theorem retire_de (l : Word) (n : BitVec 64) (s : State) : (retire l n s).de = s.de := rfl
@[simp] theorem retire_hl (l : Word) (n : BitVec 64) (s : State) : (retire l n s).hl = s.hl := rfl
@[simp] theorem retire_af' (l : Word) (n : BitVec 64) (s : State) : (retire l n s).af' = s.af' := rfl
@[simp] theorem retire_bc' (l : Word) (n : BitVec 64) (s : State) : (retire l n s).bc' = s.bc' := rfl
@[simp] theorem retire_de' (l : Word) (n : BitVec 64) (s : State) : (retire l n s).de' = s.de' := rfl
@[simp] theorem retire_hl' (l : Word) (n : BitVec 64) (s : State) : (retire l n s).hl' = s.hl' := rfl
@[simp] theorem retire_sp (l : Word) (n : BitVec 64) (s : State) : (retire l n s).sp = s.sp := rfl
@[simp] theorem retire_i (l : Word) (n : BitVec 64) (s : State) : (retire l n s).i = s.i := rfl
@[simp] theorem retire_iff1 (l : Word) (n : BitVec 64) (s : State) : (retire l n s).iff1 = s.iff1 := rfl
@[simp] theorem retire_iff2 (l : Word) (n : BitVec 64) (s : State) : (retire l n s).iff2 = s.iff2 := rfl
@[simp] theorem retire_nmiFF (l : Word) (n : BitVec 64) (s : State) : (retire l n s).nmiFF = s.nmiFF := rfl
@[simp] theorem retire_intFF (l : Word) (n : BitVec 64) (s : State) : (retire l n s).intFF = s.intFF := rfl
@[simp] theorem retire_eiFF (l : Word) (n : BitVec 64) (s : State) : (retire l n s).eiFF = s.eiFF := rfl
@[simp] theorem retire_im (l : Word) (n : BitVec 64) (s : State) : (retire l n s).im = s.im := rfl
@[simp] theorem retire_resetReq (l : Word) (n : BitVec 64) (s : State) : (retire l n s).resetReq = s.resetReq := rfl
@[simp] theorem retire_nmiLine (l : Word) (n : BitVec 64) (s : State) : (retire l n s).nmiLine = s.nmiLine := rfl
@[simp] theorem retire_intLine (l : Word) (n : BitVec 64) (s : State) : (retire l n s).intLine = s.intLine := rfl
@[simp] theorem retire_mem (l : Word) (n : BitVec 64) (s : State) : (retire l n s).mem = s.mem := rfl
@[simp] theorem retire_busAnswers (l : Word) (n : BitVec 64) (s : State) : (retire l n s).busAnswers = s.busAnswers := rfl
@[simp] theorem retire_ackQueue (l : Word) (n : BitVec 64) (s : State) : (retire l n s).ackQueue = s.ackQueue := rfl
@[simp] theorem retire_draws (l : Word) (n : BitVec 64) (s : State) : (retire l n s).draws = s.draws := rfl
@[simp] theorem retire_trace (l : Word) (n : BitVec 64) (s : State) : (retire l n s).trace = s.trace := rfl
@[simp] theorem retire_pc (l : Word) (n : BitVec 64) (s : State) : (retire l n s).pc = s.pc + l := rfl
@[simp] theorem retire_cycles (l : Word) (n : BitVec 64) (s : State) : (retire l n s).cycles = s.cycles + n := rfl

/-! ## jumpTo -/

@[simp] theorem jumpTo_af (t : Word) (n : BitVec 64) (s : State) : (jumpTo t n s).af = s.af := rfl
@[simp] theorem jumpTo_bc (t : Word) (n : BitVec 64) (s : State) : (jumpTo t n s).bc = s.bc := rfl
@[simp] theorem jumpTo_de (t : Word) (n : BitVec 64) (s : State) : (jumpTo t n s).de = s.de := rfl
@[simp] theorem jumpTo_hl (t : Word) (n : BitVec 64) (s : State) : (jumpTo t n s).hl = s.hl := rfl
@[simp] theorem jumpTo_af' (t : Word) (n : BitVec 64) (s : State) : (jumpTo t n s).af' = s.af' := rfl
@[simp] theorem jumpTo_bc' (t : Word) (n : BitVec 64) (s : State) : (jumpTo t n s).bc' = s.bc' := rfl
@[simp] theorem jumpTo_de' (t : Word) (n : BitVec 64) (s : State) : (jumpTo t n s).de' = s.de' := rfl
@[simp] theorem jumpTo_hl' (t : Word) (n : BitVec 64) (s : State) : (jumpTo t n s).hl' = s.hl' := rfl
@[simp] theorem jumpTo_sp (t : Word) (n : BitVec 64) (s : State) : (jumpTo t n s).sp = s.sp := rfl
@[simp] theorem jumpTo_i (t : Word) (n : BitVec 64) (s : State) : (jumpTo t n s).i = s.i := rfl
@[simp] theorem jumpTo_iff1 (t : Word) (n : BitVec 64) (s : State) : (jumpTo t n s).iff1 = s.iff1 := rfl
@[simp] theorem jumpTo_iff2 (t : Word) (n : BitVec 64) (s : State) : (jumpTo t n s).iff2 = s.iff2 := rfl
@[simp] theorem jumpTo_nmiFF (t : Word) (n : BitVec 64) (s : State) : (jumpTo t n s).nmiFF = s.nmiFF := rfl
@[simp] theorem jumpTo_intFF (t : Word) (n : BitVec 64) (s : State) : (jumpTo t n s).intFF = s.intFF := rfl
@[simp] theorem jumpTo_eiFF (t : Word) (n : BitVec 64) (s : State) : (jumpTo t n s).eiFF = s.eiFF := rfl
@[simp] theorem jumpTo_im (t : Word) (n : BitVec 64) (s : State) : (jumpTo t n s).im = s.im := rfl
@[simp] theorem jumpTo_resetReq (t : Word) (n : BitVec 64) (s : State) : (jumpTo t n s).resetReq = s.resetReq := rfl
@[simp] theorem jumpTo_nmiLine (t : Word) (n : BitVec 64) (s : State) : (jumpTo t n s).nmiLine = s.nmiLine := rfl
@[simp] theorem jumpTo_intLine (t : Word) (n : BitVec 64) (s : State) : (jumpTo t n s).intLine = s.intLine := rfl
@[simp] theorem jumpTo_mem (t : Word) (n : BitVec 64) (s : State) : (jumpTo t n s).mem = s.mem := rfl
@[simp] theorem jumpTo_busAnswers (t : Word) (n : BitVec 64) (s : State) : (jumpTo t n s).busAnswers = s.busAnswers := rfl
@[simp] theorem jumpTo_ackQueue (t : Word) (n : BitVec 64) (s : State) : (jumpTo t n s).ackQueue = s.ackQueue := rfl
@[simp] theorem jumpTo_draws (t : Word) (n : BitVec 64) (s : State) : (jumpTo t n s).draws = s.draws := rfl
@[simp] theorem jumpTo_trace (t : Word) (n : BitVec 64) (s : State) : (jumpTo t n s).trace = s.trace := rfl
@[simp] theorem jumpTo_pc (t : Word) (n : BitVec 64) (s : State) : (jumpTo t n s).pc = t := rfl
@[simp] theorem jumpTo_cycles (t : Word) (n : BitVec 64) (s : State) : (jumpTo t n s).cycles = s.cycles + n := rfl

/-! ## busRead -/

@[simp] theorem busRead_af (a : Word) (s : State) : ((busRead a s).2).af = s.af := rfl
@[simp] theorem busRead_bc (a : Word) (s : State) : ((busRead a s).2).bc = s.bc := rfl
@[simp] theorem busRead_de (a : Word) (s : State) : ((busRead a s).2).de = s.de := rfl
@[simp] theorem busRead_hl (a : Word) (s : State) : ((busRead a s).2).hl = s.hl := rfl
@[simp] theorem busRead_af' (a : Word) (s : State) : ((busRead a s).2).af' = s.af' := rfl
@[simp] theorem busRead_bc' (a : Word) (s : State) : ((busRead a s).2).bc' = s.bc' := rfl
@[simp] theorem busRead_de' (a : Word) (s : State) : ((busRead a s).2).de' = s.de' := rfl
@[simp] theorem busRead_hl' (a : Word) (s : State) : ((busRead a s).2).hl' = s.hl' := rfl
@[simp] theorem busRead_pc (a : Word) (s : State) : ((busRead a s).2).pc = s.pc := rfl
@[simp] theorem busRead_sp (a : Word) (s : State) : ((busRead a s).2).sp = s.sp := rfl
@[simp] theorem busRead_i (a : Word) (s : State) : ((busRead a s).2).i = s.i := rfl
@[simp] theorem busRead_iff1 (a : Word) (s : State) : ((busRead a s).2).iff1 = s.iff1 := rfl
@[simp] theorem busRead_iff2 (a : Word) (s : State) : ((busRead a s).2).iff2 = s.iff2 := rfl
@[simp] theorem busRead_nmiFF (a : Word) (s : State) : ((busRead a s).2).nmiFF = s.nmiFF := rfl
@[simp] theorem busRead_intFF (a : Word) (s : State) : ((busRead a s).2).intFF = s.intFF := rfl
@[simp] theorem busRead_eiFF (a : Word) (s : State) : ((busRead a s).2).eiFF = s.eiFF := rfl
@[simp] theorem busRead_im (a : Word) (s : State) : ((busRead a s).2).im = s.im := rfl
@[simp] theorem busRead_cycles (a : Word) (s : State) : ((busRead a s).2).cycles = s.cycles := rfl
@[simp] theorem busRead_resetReq (a : Word) (s : State) : ((busRead a s).2).resetReq = s.resetReq := rfl
@[simp] theorem busRead_nmiLine (a : Word) (s : State) : ((busRead a s).2).nmiLine = s.nmiLine := rfl
@[simp] theorem busRead_intLine (a : Word) (s : State) : ((busRead a s).2).intLine = s.intLine := rfl
@[simp] theorem busRead_mem (a : Word) (s : State) : ((busRead a s).2).mem = s.mem := rfl
@[simp] theorem busRead_ackQueue (a : Word) (s : State) : ((busRead a s).2).ackQueue = s.ackQueue := rfl
@[simp] theorem busRead_draws (a : Word) (s : State) : ((busRead a s).2).draws = s.draws := rfl
@[simp] theorem busRead_busAnswers (a : Word) (s : State) : ((busRead a s).2).busAnswers = dropAnswer s.busAnswers a := rfl
@[simp] theorem busRead_trace (a : Word) (s : State) : ((busRead a s).2).trace = s.trace ++ [.read a (s.answer a)] := rfl

/-! ## busReadWord -/

@[simp] theorem busReadWord_af (a : Word) (s : State) : ((busReadWord a s).2).af = s.af := rfl
@[simp] theorem busReadWord_bc (a : Word) (s : State) : ((busReadWord a s).2).bc = s.bc := rfl
@[simp] theorem busReadWord_de (a : Word) (s : State) : ((busReadWord a s).2).de = s.de := rfl
@[simp] theorem busReadWord_hl (a : Word) (s : State) : ((busReadWord a s).2).hl = s.hl := rfl
@[simp] theorem busReadWord_af' (a : Word) (s : State) : ((busReadWord a s).2).af' = s.af' := rfl
@[simp] theorem busReadWord_bc' (a : Word) (s : State) : ((busReadWord a s).2).bc' = s.bc' := rfl
@[simp] theorem busReadWord_de' (a : Word) (s : State) : ((busReadWord a s).2).de' = s.de' := rfl
@[simp] theorem busReadWord_hl' (a : Word) (s : State) : ((busReadWord a s).2).hl' = s.hl' := rfl
@[simp] theorem busReadWord_pc (a : Word) (s : State) : ((busReadWord a s).2).pc = s.pc := rfl
@[simp] theorem busReadWord_sp (a : Word) (s : State) : ((busReadWord a s).2).sp = s.sp := rfl
@[simp] theorem busReadWord_i (a : Word) (s : State) : ((busReadWord a s).2).i = s.i := rfl
@[simp] theorem busReadWord_iff1 (a : Word) (s : State) : ((busReadWord a s).2).iff1 = s.iff1 := rfl
@[simp] theorem busReadWord_iff2 (a : Word) (s : State) : ((busReadWord a s).2).iff2 = s.iff2 := rfl
@[simp] theorem busReadWord_nmiFF (a : Word) (s : State) : ((busReadWord a s).2).nmiFF = s.nmiFF := rfl
@[simp] theorem busReadWord_intFF (a : Word) (s : State) : ((busReadWord a s).2).intFF = s.intFF := rfl
@[simp] theorem busReadWord_eiFF (a : Word) (s : State) : ((busReadWord a s).2).eiFF = s.eiFF := rfl
@[simp] theorem busReadWord_im (a : Word) (s : State) : ((busReadWord a s).2).im = s.im := rfl
@[simp] theorem busReadWord_cycles (a : Word) (s : State) : ((busReadWord a s).2).cycles = s.cycles := rfl
@[simp] theorem busReadWord_resetReq (a : Word) (s : State) : ((busReadWord a s).2).resetReq = s.resetReq := rfl
@[simp] theorem busReadWord_nmiLine (a : Word) (s : State) : ((busReadWord a s).2).nmiLine = s.nmiLine := rfl
@[simp] theorem busReadWord_intLine (a : Word) (s : State) : ((busReadWord a s).2).intLine = s.intLine := rfl
@[simp] theorem busReadWord_mem (a : Word) (s : State) : ((busReadWord a s).2).mem = s.mem := rfl
@[simp] theorem busReadWord_ackQueue (a : Word) (s : State) : ((busReadWord a s).2).ackQueue = s.ackQueue := rfl
@[simp] theorem busReadWord_draws (a : Word) (s : State) : ((busReadWord a s).2).draws = s.draws := rfl
@[simp] theorem busReadWord_busAnswers (a : Word) (s : State) : ((busReadWord a s).2).busAnswers = dropAnswer (dropAnswer s.busAnswers a) (a + 1) := rfl

/-! ## busWrite -/

@[simp] theorem busWrite_af (a : Word) (v : Octet) (s : State) : (busWrite a v s).af = s.af := rfl
@[simp] theorem busWrite_bc (a : Word) (v : Octet) (s : State) : (busWrite a v s).bc = s.bc := rfl
@[simp] theorem busWrite_de (a : Word) (v : Octet) (s : State) : (busWrite a v s).de = s.de := rfl
@[simp] theorem busWrite_hl (a : Word) (v : Octet) (s : State) : (busWrite a v s).hl = s.hl := rfl
@[simp] theorem busWrite_af' (a : Word) (v : Octet) (s : State) : (busWrite a v s).af' = s.af' := rfl
@[simp] theorem busWrite_bc' (a : Word) (v : Octet) (s : State) : (busWrite a v s).bc' = s.bc' := rfl
@[simp] theorem busWrite_de' (a : Word) (v : Octet) (s : State) : (busWrite a v s).de' = s.de' := rfl
@[simp] theorem busWrite_hl' (a : Word) (v : Octet) (s : State) : (busWrite a v s).hl' = s.hl' := rfl
@[simp] theorem busWrite_pc (a : Word) (v : Octet) (s : State) : (busWrite a v s).pc = s.pc := rfl
@[simp] theorem busWrite_sp (a : Word) (v : Octet) (s : State) : (busWrite a v s).sp = s.sp := rfl
@[simp] theorem busWrite_i (a : Word) (v : Octet) (s : State) : (busWrite a v s).i = s.i := rfl
@[simp] theorem busWrite_iff1 (a : Word) (v : Octet) (s : State) : (busWrite a v s).iff1 = s.iff1 := rfl
@[simp] theorem busWrite_iff2 (a : Word) (v : Octet) (s : State) : (busWrite a v s).iff2 = s.iff2 := rfl
@[simp] theorem busWrite_nmiFF (a : Word) (v : Octet) (s : State) : (busWrite a v s).nmiFF = s.nmiFF := rfl
@[simp] theorem busWrite_intFF (a : Word) (v : Octet) (s : State) : (busWrite a v s).intFF = s.intFF := rfl
@[simp] theorem busWrite_eiFF (a : Word) (v : Octet) (s : State) : (busWrite a v s).eiFF = s.eiFF := rfl
@[simp] theorem busWrite_im (a : Word) (v : Octet) (s : State) : (busWrite a v s).im = s.im := rfl
@[simp] theorem busWrite_cycles (a : Word) (v : Octet) (s : State) : (busWrite a v s).cycles = s.cycles := rfl
@[simp] theorem busWrite_resetReq (a : Word) (v : Octet) (s : State) : (busWrite a v s).resetReq = s.resetReq := rfl
@[simp] theorem busWrite_nmiLine (a : Word) (v : Octet) (s : State) : (busWrite a v s).nmiLine = s.nmiLine := rfl
@[simp] theorem busWrite_intLine (a : Word) (v : Octet) (s : State) : (busWrite a v s).intLine = s.intLine := rfl
@[simp] theorem busWrite_busAnswers (a : Word) (v : Octet) (s : State) : (busWrite a v s).busAnswers = s.busAnswers := rfl
@[simp] theorem busWrite_ackQueue (a : Word) (v : Octet) (s : State) : (busWrite a v s).ackQueue = s.ackQueue := rfl
@[simp] theorem busWrite_draws (a : Word) (v : Octet) (s : State) : (busWrite a v s).draws = s.draws := rfl
@[simp] theorem busWrite_mem (a : Word) (v : Octet) (s : State) : (busWrite a v s).mem = Memory.put s.mem a v := rfl
@[simp] theorem busWrite_trace (a : Word) (v : Octet) (s : State) : (busWrite a v s).trace = s.trace ++ [.write a v] := rfl

/-! ## busWriteWord -/

@[simp] theorem busWriteWord_af (a w : Word) (s : State) : (busWriteWord a w s).af = s.af := rfl
@[simp] theorem busWriteWord_bc (a w : Word) (s : State) : (busWriteWord a w s).bc = s.bc := rfl
@[simp] theorem busWriteWord_de (a w : Word) (s : State) : (busWriteWord a w s).de = s.de := rfl
@[simp] theorem busWriteWord_hl (a w : Word) (s : State) : (busWriteWord a w s).hl = s.hl := rfl
@[simp] theorem busWriteWord_af' (a w : Word) (s : State) : (busWriteWord a w s).af' = s.af' := rfl
@[simp] theorem busWriteWord_bc' (a w : Word) (s : State) : (busWriteWord a w s).bc' = s.bc' := rfl
@[simp] theorem busWriteWord_de' (a w : Word) (s : State) : (busWriteWord a w s).de' = s.de' := rfl
@[simp] theorem busWriteWord_hl' (a w : Word) (s : State) : (busWriteWord a w s).hl' = s.hl' := rfl
@[simp] theorem busWriteWord_pc (a w : Word) (s : State) : (busWriteWord a w s).pc = s.pc := rfl
@[simp] theorem busWriteWord_sp (a w : Word) (s : State) : (busWriteWord a w s).sp = s.sp := rfl
@[simp] theorem busWriteWord_i (a w : Word) (s : State) : (busWriteWord a w s).i = s.i := rfl
@[simp] theorem busWriteWord_iff1 (a w : Word) (s : State) : (busWriteWord a w s).iff1 = s.iff1 := rfl
@[simp] theorem busWriteWord_iff2 (a w : Word) (s : State) : (busWriteWord a w s).iff2 = s.iff2 := rfl
@[simp] theorem busWriteWord_nmiFF (a w : Word) (s : State) : (busWriteWord a w s).nmiFF = s.nmiFF := rfl
@[simp] theorem busWriteWord_intFF (a w : Word) (s : State) : (busWriteWord a w s).intFF = s.intFF := rfl
@[simp] theorem busWriteWord_eiFF (a w : Word) (s : State) : (busWriteWord a w s).eiFF = s.eiFF := rfl
@[simp] theorem busWriteWord_im (a w : Word) (s : State) : (busWriteWord a w s).im = s.im := rfl
@[simp] theorem busWriteWord_cycles (a w : Word) (s : State) : (busWriteWord a w s).cycles = s.cycles := rfl
@[simp] theorem busWriteWord_resetReq (a w : Word) (s : State) : (busWriteWord a w s).resetReq = s.resetReq := rfl
@[simp] theorem busWriteWord_nmiLine (a w : Word) (s : State) : (busWriteWord a w s).nmiLine = s.nmiLine := rfl
@[simp] theorem busWriteWord_intLine (a w : Word) (s : State) : (busWriteWord a w s).intLine = s.intLine := rfl
@[simp] theorem busWriteWord_busAnswers (a w : Word) (s : State) : (busWriteWord a w s).busAnswers = s.busAnswers := rfl
@[simp] theorem busWriteWord_ackQueue (a w : Word) (s : State) : (busWriteWord a w s).ackQueue = s.ackQueue := rfl
@[simp] theorem busWriteWord_draws (a w : Word) (s : State) : (busWriteWord a w s).draws = s.draws := rfl
@[simp] theorem busWriteWord_mem (a w : Word) (s : State) : (busWriteWord a w s).mem = Memory.put (Memory.put s.mem a (lo w)) (a + 1) (hi w) := rfl
@[simp] theorem busWriteWord_trace (a w : Word) (s : State) : (busWriteWord a w s).trace = s.trace ++ [.write a (lo w)] ++ [.write (a + 1) (hi w)] := rfl

/-! ## intAck -/

@[simp] theorem intAck_af (s : State) : ((intAck s).2).af = s.af := by unfold intAck; split <;> rfl
@[simp] theorem intAck_bc (s : State) : ((intAck s).2).bc = s.bc := by unfold intAck; split <;> rfl
@[simp] theorem intAck_de (s : State) : ((intAck s).2).de = s.de := by unfold intAck; split <;> rfl
@[simp] theorem intAck_hl (s : State) : ((intAck s).2).hl = s.hl := by unfold intAck; split <;> rfl
@[simp] theorem intAck_af' (s : State) : ((intAck s).2).af' = s.af' := by unfold intAck; split <;> rfl
@[simp] theorem intAck_bc' (s : State) : ((intAck s).2).bc' = s.bc' := by unfold intAck; split <;> rfl
@[simp] theorem intAck_de' (s : State) : ((intAck s).2).de' = s.de' := by unfold intAck; split <;> rfl
@[simp] theorem intAck_hl' (s : State) : ((intAck s).2).hl' = s.hl' := by unfold intAck; split <;> rfl
@[simp] theorem intAck_pc (s : State) : ((intAck s).2).pc = s.pc := by unfold intAck; split <;> rfl
@[simp] theorem intAck_sp (s : State) : ((intAck s).2).sp = s.sp := by unfold intAck; split <;> rfl
@[simp] theorem intAck_i (s : State) : ((intAck s).2).i = s.i := by unfold intAck; split <;> rfl
@[simp] theorem intAck_iff1 (s : State) : ((intAck s).2).iff1 = s.iff1 := by unfold intAck; split <;> rfl
@[simp] theorem intAck_iff2 (s : State) : ((intAck s).2).iff2 = s.iff2 := by unfold intAck; split <;> rfl
@[simp] theorem intAck_nmiFF (s : State) : ((intAck s).2).nmiFF = s.nmiFF := by unfold intAck; split <;> rfl
@[simp] theorem intAck_intFF (s : State) : ((intAck s).2).intFF = s.intFF := by unfold intAck; split <;> rfl
@[simp] theorem intAck_eiFF (s : State) : ((intAck s).2).eiFF = s.eiFF := by unfold intAck; split <;> rfl
@[simp] theorem intAck_im (s : State) : ((intAck s).2).im = s.im := by unfold intAck; split <;> rfl
@[simp] theorem intAck_cycles (s : State) : ((intAck s).2).cycles = s.cycles := by unfold intAck; split <;> rfl
@[simp] theorem intAck_resetReq (s : State) : ((intAck s).2).resetReq = s.resetReq := by unfold intAck; split <;> rfl
@[simp] theorem intAck_nmiLine (s : State) : ((intAck s).2).nmiLine = s.nmiLine := by unfold intAck; split <;> rfl
@[simp] theorem intAck_intLine (s : State) : ((intAck s).2).intLine = s.intLine := by unfold intAck; split <;> rfl
@[simp] theorem intAck_mem (s : State) : ((intAck s).2).mem = s.mem := by unfold intAck; split <;> rfl
@[simp] theorem intAck_busAnswers (s : State) : ((intAck s).2).busAnswers = s.busAnswers := by unfold intAck; split <;> rfl

/-! ## push -/

@[simp] theorem push_af (w : Word) (s : State) : (push w s).af = s.af := rfl
@[simp] theorem push_bc (w : Word) (s : State) : (push w s).bc = s.bc := rfl
@[simp] theorem push_de (w : Word) (s : State) : (push w s).de = s.de := rfl
@[simp] theorem push_hl (w : Word) (s : State) : (push w s).hl = s.hl := rfl
@[simp] theorem push_af' (w : Word) (s : State) : (push w s).af' = s.af' := rfl
@[simp] theorem push_bc' (w : Word) (s : State) : (push w s).bc' = s.bc' := rfl
@[simp] theorem push_de' (w : Word) (s : State) : (push w s).de' = s.de' := rfl
@[simp] theorem push_hl' (w : Word) (s : State) : (push w s).hl' = s.hl' := rfl
@[simp] theorem push_pc (w : Word) (s : State) : (push w s).pc = s.pc := rfl
@[simp] theorem push_i (w : Word) (s : State) : (push w s).i = s.i := rfl
@[simp] theorem push_iff1 (w : Word) (s : State) : (push w s).iff1 = s.iff1 := rfl
@[simp] theorem push_iff2 (w : Word) (s : State) : (push w s).iff2 = s.iff2 := rfl
@[simp] theorem push_nmiFF (w : Word) (s : State) : (push w s).nmiFF = s.nmiFF := rfl
@[simp] theorem push_intFF (w : Word) (s : State) : (push w s).intFF = s.intFF := rfl
@[simp] theorem push_eiFF (w : Word) (s : State) : (push w s).eiFF = s.eiFF := rfl
@[simp] theorem push_im (w : Word) (s : State) : (push w s).im = s.im := rfl
@[simp] theorem push_cycles (w : Word) (s : State) : (push w s).cycles = s.cycles := rfl
@[simp] theorem push_resetReq (w : Word) (s : State) : (push w s).resetReq = s.resetReq := rfl
@[simp] theorem push_nmiLine (w : Word) (s : State) : (push w s).nmiLine = s.nmiLine := rfl
@[simp] theorem push_intLine (w : Word) (s : State) : (push w s).intLine = s.intLine := rfl
@[simp] theorem push_busAnswers (w : Word) (s : State) : (push w s).busAnswers = s.busAnswers := rfl
@[simp] theorem push_ackQueue (w : Word) (s : State) : (push w s).ackQueue = s.ackQueue := rfl
@[simp] theorem push_draws (w : Word) (s : State) : (push w s).draws = s.draws := rfl
@[simp] theorem push_sp (w : Word) (s : State) : (push w s).sp = s.sp - 2 := rfl
@[simp] theorem push_mem (w : Word) (s : State) : (push w s).mem = Memory.put (Memory.put s.mem (s.sp - 2) (lo w)) (s.sp - 2 + 1) (hi w) := rfl
@[simp] theorem push_trace (w : Word) (s : State) : (push w s).trace = s.trace ++ [.write (s.sp - 2) (lo w)] ++ [.write (s.sp - 2 + 1) (hi w)] := rfl

/-! ## pop -/

@[simp] theorem pop_af (s : State) : ((pop s).2).af = s.af := rfl
@[simp] theorem pop_bc (s : State) : ((pop s).2).bc = s.bc := rfl
@[simp] theorem pop_de (s : State) : ((pop s).2).de = s.de := rfl
@[simp] theorem pop_hl (s : State) : ((pop s).2).hl = s.hl := rfl
@[simp] theorem pop_af' (s : State) : ((pop s).2).af' = s.af' := rfl
@[simp] theorem pop_bc' (s : State) : ((pop s).2).bc' = s.bc' := rfl
@[simp] theorem pop_de' (s : State) : ((pop s).2).de' = s.de' := rfl
@[simp] theorem pop_hl' (s : State) : ((pop s).2).hl' = s.hl' := rfl
@[simp] theorem pop_pc (s : State) : ((pop s).2).pc = s.pc := rfl
@[simp] theorem pop_i (s : State) : ((pop s).2).i = s.i := rfl
@[simp] theorem pop_iff1 (s : State) : ((pop s).2).iff1 = s.iff1 := rfl
@[simp] theorem pop_iff2 (s : State) : ((pop s).2).iff2 = s.iff2 := rfl
@[simp] theorem pop_nmiFF (s : State) : ((pop s).2).nmiFF = s.nmiFF := rfl
@[simp] theorem pop_intFF (s : State) : ((pop s).2).intFF = s.intFF := rfl
@[simp] theorem pop_eiFF (s : State) : ((pop s).2).eiFF = s.eiFF := rfl
@[simp] theorem pop_im (s : State) : ((pop s).2).im = s.im := rfl
@[simp] theorem pop_cycles (s : State) : ((pop s).2).cycles = s.cycles := rfl
@[simp] theorem pop_resetReq (s : State) : ((pop s).2).resetReq = s.resetReq := rfl
@[simp] theorem pop_nmiLine (s : State) : ((pop s).2).nmiLine = s.nmiLine := rfl
@[simp] theorem pop_intLine (s : State) : ((pop s).2).intLine = s.intLine := rfl
@[simp] theorem pop_mem (s : State) : ((pop s).2).mem = s.mem := rfl
@[simp] theorem pop_ackQueue (s : State) : ((pop s).2).ackQueue = s.ackQueue := rfl
@[simp] theorem pop_draws (s : State) : ((pop s).2).draws = s.draws := rfl
@[simp] theorem pop_sp (s : State) : ((pop s).2).sp = s.sp + 2 := rfl
@[simp] theorem pop_busAnswers (s : State) : ((pop s).2).busAnswers = dropAnswer (dropAnswer s.busAnswers s.sp) (s.sp + 1) := rfl

/-! ## call -/

@[simp] theorem call_af (d : Word) (s : State) : (call d s).af = s.af := rfl
@[simp] theorem call_bc (d : Word) (s : State) : (call d s).bc = s.bc := rfl
@[simp] theorem call_de (d : Word) (s : State) : (call d s).de = s.de := rfl
@[simp] theorem call_hl (d : Word) (s : State) : (call d s).hl = s.hl := rfl
@[simp] theorem call_af' (d : Word) (s : State) : (call d s).af' = s.af' := rfl
@[simp] theorem call_bc' (d : Word) (s : State) : (call d s).bc' = s.bc' := rfl
@[simp] theorem call_de' (d : Word) (s : State) : (call d s).de' = s.de' := rfl
@[simp] theorem call_hl' (d : Word) (s : State) : (call d s).hl' = s.hl' := rfl
@[simp] theorem call_i (d : Word) (s : State) : (call d s).i = s.i := rfl
@[simp] theorem call_iff1 (d : Word) (s : State) : (call d s).iff1 = s.iff1 := rfl
@[simp] theorem call_iff2 (d : Word) (s : State) : (call d s).iff2 = s.iff2 := rfl
@[simp] theorem call_nmiFF (d : Word) (s : State) : (call d s).nmiFF = s.nmiFF := rfl
@[simp] theorem call_intFF (d : Word) (s : State) : (call d s).intFF = s.intFF := rfl
@[simp] theorem call_eiFF (d : Word) (s : State) : (call d s).eiFF = s.eiFF := rfl
@[simp] theorem call_im (d : Word) (s : State) : (call d s).im = s.im := rfl
@[simp] theorem call_cycles (d : Word) (s : State) : (call d s).cycles = s.cycles := rfl
@[simp] theorem call_resetReq (d : Word) (s : State) : (call d s).resetReq = s.resetReq := rfl
@[simp] theorem call_nmiLine (d : Word) (s : State) : (call d s).nmiLine = s.nmiLine := rfl
@[simp] theorem call_intLine (d : Word) (s : State) : (call d s).intLine = s.intLine := rfl
@[simp] theorem call_busAnswers (d : Word) (s : State) : (call d s).busAnswers = s.busAnswers := rfl
@[simp] theorem call_ackQueue (d : Word) (s : State) : (call d s).ackQueue = s.ackQueue := rfl
@[simp] theorem call_draws (d : Word) (s : State) : (call d s).draws = s.draws := rfl
@[simp] theorem call_pc (d : Word) (s : State) : (call d s).pc = d := rfl
@[simp] theorem call_sp (d : Word) (s : State) : (call d s).sp = s.sp - 2 := rfl
@[simp] theorem call_mem (d : Word) (s : State) : (call d s).mem = Memory.put (Memory.put s.mem (s.sp - 2) (lo s.pc)) (s.sp - 2 + 1) (hi s.pc) := rfl
@[simp] theorem call_trace (d : Word) (s : State) : (call d s).trace = s.trace ++ [.write (s.sp - 2) (lo s.pc)] ++ [.write (s.sp - 2 + 1) (hi s.pc)] := rfl

/-! ## enterHandler -/

@[simp] theorem enterHandler_af (d : Word) (n : BitVec 64) (s : State) : (enterHandler d n s).af = s.af := rfl
@[simp] theorem enterHandler_bc (d : Word) (n : BitVec 64) (s : State) : (enterHandler d n s).bc = s.bc := rfl
@[simp] theorem enterHandler_de (d : Word) (n : BitVec 64) (s : State) : (enterHandler d n s).de = s.de := rfl
@[simp] theorem enterHandler_hl (d : Word) (n : BitVec 64) (s : State) : (enterHandler d n s).hl = s.hl := rfl
@[simp] theorem enterHandler_af' (d : Word) (n : BitVec 64) (s : State) : (enterHandler d n s).af' = s.af' := rfl
@[simp] theorem enterHandler_bc' (d : Word) (n : BitVec 64) (s : State) : (enterHandler d n s).bc' = s.bc' := rfl
@[simp] theorem enterHandler_de' (d : Word) (n : BitVec 64) (s : State) : (enterHandler d n s).de' = s.de' := rfl
@[simp] theorem enterHandler_hl' (d : Word) (n : BitVec 64) (s : State) : (enterHandler d n s).hl' = s.hl' := rfl
@[simp] theorem enterHandler_i (d : Word) (n : BitVec 64) (s : State) : (enterHandler d n s).i = s.i := rfl
@[simp] theorem enterHandler_iff1 (d : Word) (n : BitVec 64) (s : State) : (enterHandler d n s).iff1 = s.iff1 := rfl
@[simp] theorem enterHandler_iff2 (d : Word) (n : BitVec 64) (s : State) : (enterHandler d n s).iff2 = s.iff2 := rfl
@[simp] theorem enterHandler_nmiFF (d : Word) (n : BitVec 64) (s : State) : (enterHandler d n s).nmiFF = s.nmiFF := rfl
@[simp] theorem enterHandler_intFF (d : Word) (n : BitVec 64) (s : State) : (enterHandler d n s).intFF = s.intFF := rfl
@[simp] theorem enterHandler_eiFF (d : Word) (n : BitVec 64) (s : State) : (enterHandler d n s).eiFF = s.eiFF := rfl
@[simp] theorem enterHandler_im (d : Word) (n : BitVec 64) (s : State) : (enterHandler d n s).im = s.im := rfl
@[simp] theorem enterHandler_resetReq (d : Word) (n : BitVec 64) (s : State) : (enterHandler d n s).resetReq = s.resetReq := rfl
@[simp] theorem enterHandler_nmiLine (d : Word) (n : BitVec 64) (s : State) : (enterHandler d n s).nmiLine = s.nmiLine := rfl
@[simp] theorem enterHandler_intLine (d : Word) (n : BitVec 64) (s : State) : (enterHandler d n s).intLine = s.intLine := rfl
@[simp] theorem enterHandler_busAnswers (d : Word) (n : BitVec 64) (s : State) : (enterHandler d n s).busAnswers = s.busAnswers := rfl
@[simp] theorem enterHandler_ackQueue (d : Word) (n : BitVec 64) (s : State) : (enterHandler d n s).ackQueue = s.ackQueue := rfl
@[simp] theorem enterHandler_draws (d : Word) (n : BitVec 64) (s : State) : (enterHandler d n s).draws = s.draws := rfl
@[simp] theorem enterHandler_pc (d : Word) (n : BitVec 64) (s : State) : (enterHandler d n s).pc = d := rfl
@[simp] theorem enterHandler_sp (d : Word) (n : BitVec 64) (s : State) : (enterHandler d n s).sp = s.sp - 2 := rfl
@[simp] theorem enterHandler_mem (d : Word) (n : BitVec 64) (s : State) : (enterHandler d n s).mem = Memory.put (Memory.put s.mem (s.sp - 2) (lo s.pc)) (s.sp - 2 + 1) (hi s.pc) := rfl
@[simp] theorem enterHandler_trace (d : Word) (n : BitVec 64) (s : State) : (enterHandler d n s).trace = s.trace ++ [.write (s.sp - 2) (lo s.pc)] ++ [.write (s.sp - 2 + 1) (hi s.pc)] := rfl
@[simp] theorem enterHandler_cycles (d : Word) (n : BitVec 64) (s : State) : (enterHandler d n s).cycles = s.cycles + n := rfl

/-! ## storeByte -/

@[simp] theorem storeByte_af (a : Word) (v : Octet) (s : State) : (storeByte a v s).af = s.af := rfl
@[simp] theorem storeByte_bc (a : Word) (v : Octet) (s : State) : (storeByte a v s).bc = s.bc := rfl
@[simp] theorem storeByte_de (a : Word) (v : Octet) (s : State) : (storeByte a v s).de = s.de := rfl
@[simp] theorem storeByte_hl (a : Word) (v : Octet) (s : State) : (storeByte a v s).hl = s.hl := rfl
@[simp] theorem storeByte_af' (a : Word) (v : Octet) (s : State) : (storeByte a v s).af' = s.af' := rfl
@[simp] theorem storeByte_bc' (a : Word) (v : Octet) (s : State) : (storeByte a v s).bc' = s.bc' := rfl
@[simp] theorem storeByte_de' (a : Word) (v : Octet) (s : State) : (storeByte a v s).de' = s.de' := rfl
@[simp] theorem storeByte_hl' (a : Word) (v : Octet) (s : State) : (storeByte a v s).hl' = s.hl' := rfl
@[simp] theorem storeByte_pc (a : Word) (v : Octet) (s : State) : (storeByte a v s).pc = s.pc := rfl
@[simp] theorem storeByte_sp (a : Word) (v : Octet) (s : State) : (storeByte a v s).sp = s.sp := rfl
@[simp] theorem storeByte_i (a : Word) (v : Octet) (s : State) : (storeByte a v s).i = s.i := rfl
@[simp] theorem storeByte_iff1 (a : Word) (v : Octet) (s : State) : (storeByte a v s).iff1 = s.iff1 := rfl
@[simp] theorem storeByte_iff2 (a : Word) (v : Octet) (s : State) : (storeByte a v s).iff2 = s.iff2 := rfl
@[simp] theorem storeByte_nmiFF (a : Word) (v : Octet) (s : State) : (storeByte a v s).nmiFF = s.nmiFF := rfl
@[simp] theorem storeByte_intFF (a : Word) (v : Octet) (s : State) : (storeByte a v s).intFF = s.intFF := rfl
@[simp] theorem storeByte_eiFF (a : Word) (v : Octet) (s : State) : (storeByte a v s).eiFF = s.eiFF := rfl
@[simp] theorem storeByte_im (a : Word) (v : Octet) (s : State) : (storeByte a v s).im = s.im := rfl
@[simp] theorem storeByte_cycles (a : Word) (v : Octet) (s : State) : (storeByte a v s).cycles = s.cycles := rfl
@[simp] theorem storeByte_resetReq (a : Word) (v : Octet) (s : State) : (storeByte a v s).resetReq = s.resetReq := rfl
@[simp] theorem storeByte_nmiLine (a : Word) (v : Octet) (s : State) : (storeByte a v s).nmiLine = s.nmiLine := rfl
@[simp] theorem storeByte_intLine (a : Word) (v : Octet) (s : State) : (storeByte a v s).intLine = s.intLine := rfl
@[simp] theorem storeByte_busAnswers (a : Word) (v : Octet) (s : State) : (storeByte a v s).busAnswers = s.busAnswers := rfl
@[simp] theorem storeByte_ackQueue (a : Word) (v : Octet) (s : State) : (storeByte a v s).ackQueue = s.ackQueue := rfl
@[simp] theorem storeByte_draws (a : Word) (v : Octet) (s : State) : (storeByte a v s).draws = s.draws := rfl
@[simp] theorem storeByte_trace (a : Word) (v : Octet) (s : State) : (storeByte a v s).trace = s.trace := rfl
@[simp] theorem storeByte_mem (a : Word) (v : Octet) (s : State) : (storeByte a v s).mem = Memory.put s.mem a v := rfl

/-! ## readSource -/

@[simp] theorem readSource_af (src : AluSource) (s : State) : ((readSource src s).2).af = s.af := by cases src <;> rfl
@[simp] theorem readSource_bc (src : AluSource) (s : State) : ((readSource src s).2).bc = s.bc := by cases src <;> rfl
@[simp] theorem readSource_de (src : AluSource) (s : State) : ((readSource src s).2).de = s.de := by cases src <;> rfl
@[simp] theorem readSource_hl (src : AluSource) (s : State) : ((readSource src s).2).hl = s.hl := by cases src <;> rfl
@[simp] theorem readSource_af' (src : AluSource) (s : State) : ((readSource src s).2).af' = s.af' := by cases src <;> rfl
@[simp] theorem readSource_bc' (src : AluSource) (s : State) : ((readSource src s).2).bc' = s.bc' := by cases src <;> rfl
@[simp] theorem readSource_de' (src : AluSource) (s : State) : ((readSource src s).2).de' = s.de' := by cases src <;> rfl
@[simp] theorem readSource_hl' (src : AluSource) (s : State) : ((readSource src s).2).hl' = s.hl' := by cases src <;> rfl
@[simp] theorem readSource_pc (src : AluSource) (s : State) : ((readSource src s).2).pc = s.pc := by cases src <;> rfl
@[simp] theorem readSource_sp (src : AluSource) (s : State) : ((readSource src s).2).sp = s.sp := by cases src <;> rfl
@[simp] theorem readSource_i (src : AluSource) (s : State) : ((readSource src s).2).i = s.i := by cases src <;> rfl
@[simp] theorem readSource_iff1 (src : AluSource) (s : State) : ((readSource src s).2).iff1 = s.iff1 := by cases src <;> rfl
@[simp] theorem readSource_iff2 (src : AluSource) (s : State) : ((readSource src s).2).iff2 = s.iff2 := by cases src <;> rfl
@[simp] theorem readSource_nmiFF (src : AluSource) (s : State) : ((readSource src s).2).nmiFF = s.nmiFF := by cases src <;> rfl
@[simp] theorem readSource_intFF (src : AluSource) (s : State) : ((readSource src s).2).intFF = s.intFF := by cases src <;> rfl
@[simp] theorem readSource_eiFF (src : AluSource) (s : State) : ((readSource src s).2).eiFF = s.eiFF := by cases src <;> rfl
@[simp] theorem readSource_im (src : AluSource) (s : State) : ((readSource src s).2).im = s.im := by cases src <;> rfl
@[simp] theorem readSource_cycles (src : AluSource) (s : State) : ((readSource src s).2).cycles = s.cycles := by cases src <;> rfl
@[simp] theorem readSource_resetReq (src : AluSource) (s : State) : ((readSource src s).2).resetReq = s.resetReq := by cases src <;> rfl
@[simp] theorem readSource_nmiLine (src : AluSource) (s : State) : ((readSource src s).2).nmiLine = s.nmiLine := by cases src <;> rfl
@[simp] theorem readSource_intLine (src : AluSource) (s : State) : ((readSource src s).2).intLine = s.intLine := by cases src <;> rfl
@[simp] theorem readSource_mem (src : AluSource) (s : State) : ((readSource src s).2).mem = s.mem := by cases src <;> rfl
@[simp] theorem readSource_ackQueue (src : AluSource) (s : State) : ((readSource src s).2).ackQueue = s.ackQueue := by cases src <;> rfl
@[simp] theorem readSource_draws (src : AluSource) (s : State) : ((readSource src s).2).draws = s.draws := by cases src <;> rfl

/-! ## withdrawAnswers -/

@[simp] theorem withdrawAnswers_af (a : Word) (s : State) : (withdrawAnswers a s).af = s.af := rfl
@[simp] theorem withdrawAnswers_bc (a : Word) (s : State) : (withdrawAnswers a s).bc = s.bc := rfl
@[simp] theorem withdrawAnswers_de (a : Word) (s : State) : (withdrawAnswers a s).de = s.de := rfl
@[simp] theorem withdrawAnswers_hl (a : Word) (s : State) : (withdrawAnswers a s).hl = s.hl := rfl
@[simp] theorem withdrawAnswers_af' (a : Word) (s : State) : (withdrawAnswers a s).af' = s.af' := rfl
@[simp] theorem withdrawAnswers_bc' (a : Word) (s : State) : (withdrawAnswers a s).bc' = s.bc' := rfl
@[simp] theorem withdrawAnswers_de' (a : Word) (s : State) : (withdrawAnswers a s).de' = s.de' := rfl
@[simp] theorem withdrawAnswers_hl' (a : Word) (s : State) : (withdrawAnswers a s).hl' = s.hl' := rfl
@[simp] theorem withdrawAnswers_pc (a : Word) (s : State) : (withdrawAnswers a s).pc = s.pc := rfl
@[simp] theorem withdrawAnswers_sp (a : Word) (s : State) : (withdrawAnswers a s).sp = s.sp := rfl
@[simp] theorem withdrawAnswers_i (a : Word) (s : State) : (withdrawAnswers a s).i = s.i := rfl
@[simp] theorem withdrawAnswers_iff1 (a : Word) (s : State) : (withdrawAnswers a s).iff1 = s.iff1 := rfl
@[simp] theorem withdrawAnswers_iff2 (a : Word) (s : State) : (withdrawAnswers a s).iff2 = s.iff2 := rfl
@[simp] theorem withdrawAnswers_nmiFF (a : Word) (s : State) : (withdrawAnswers a s).nmiFF = s.nmiFF := rfl
@[simp] theorem withdrawAnswers_intFF (a : Word) (s : State) : (withdrawAnswers a s).intFF = s.intFF := rfl
@[simp] theorem withdrawAnswers_eiFF (a : Word) (s : State) : (withdrawAnswers a s).eiFF = s.eiFF := rfl
@[simp] theorem withdrawAnswers_im (a : Word) (s : State) : (withdrawAnswers a s).im = s.im := rfl
@[simp] theorem withdrawAnswers_cycles (a : Word) (s : State) : (withdrawAnswers a s).cycles = s.cycles := rfl
@[simp] theorem withdrawAnswers_resetReq (a : Word) (s : State) : (withdrawAnswers a s).resetReq = s.resetReq := rfl
@[simp] theorem withdrawAnswers_nmiLine (a : Word) (s : State) : (withdrawAnswers a s).nmiLine = s.nmiLine := rfl
@[simp] theorem withdrawAnswers_intLine (a : Word) (s : State) : (withdrawAnswers a s).intLine = s.intLine := rfl
@[simp] theorem withdrawAnswers_mem (a : Word) (s : State) : (withdrawAnswers a s).mem = s.mem := rfl
@[simp] theorem withdrawAnswers_ackQueue (a : Word) (s : State) : (withdrawAnswers a s).ackQueue = s.ackQueue := rfl
@[simp] theorem withdrawAnswers_draws (a : Word) (s : State) : (withdrawAnswers a s).draws = s.draws := rfl
@[simp] theorem withdrawAnswers_trace (a : Word) (s : State) : (withdrawAnswers a s).trace = s.trace := rfl

/-! ## placeByte -/

@[simp] theorem placeByte_af (a : Word) (v : Octet) (s : State) : (placeByte a v s).af = s.af := rfl
@[simp] theorem placeByte_bc (a : Word) (v : Octet) (s : State) : (placeByte a v s).bc = s.bc := rfl
@[simp] theorem placeByte_de (a : Word) (v : Octet) (s : State) : (placeByte a v s).de = s.de := rfl
@[simp] theorem placeByte_hl (a : Word) (v : Octet) (s : State) : (placeByte a v s).hl = s.hl := rfl
@[simp] theorem placeByte_af' (a : Word) (v : Octet) (s : State) : (placeByte a v s).af' = s.af' := rfl
@[simp] theorem placeByte_bc' (a : Word) (v : Octet) (s : State) : (placeByte a v s).bc' = s.bc' := rfl
@[simp] theorem placeByte_de' (a : Word) (v : Octet) (s : State) : (placeByte a v s).de' = s.de' := rfl
@[simp] theorem placeByte_hl' (a : Word) (v : Octet) (s : State) : (placeByte a v s).hl' = s.hl' := rfl
@[simp] theorem placeByte_pc (a : Word) (v : Octet) (s : State) : (placeByte a v s).pc = s.pc := rfl
@[simp] theorem placeByte_sp (a : Word) (v : Octet) (s : State) : (placeByte a v s).sp = s.sp := rfl
@[simp] theorem placeByte_i (a : Word) (v : Octet) (s : State) : (placeByte a v s).i = s.i := rfl
@[simp] theorem placeByte_iff1 (a : Word) (v : Octet) (s : State) : (placeByte a v s).iff1 = s.iff1 := rfl
@[simp] theorem placeByte_iff2 (a : Word) (v : Octet) (s : State) : (placeByte a v s).iff2 = s.iff2 := rfl
@[simp] theorem placeByte_nmiFF (a : Word) (v : Octet) (s : State) : (placeByte a v s).nmiFF = s.nmiFF := rfl
@[simp] theorem placeByte_intFF (a : Word) (v : Octet) (s : State) : (placeByte a v s).intFF = s.intFF := rfl
@[simp] theorem placeByte_eiFF (a : Word) (v : Octet) (s : State) : (placeByte a v s).eiFF = s.eiFF := rfl
@[simp] theorem placeByte_im (a : Word) (v : Octet) (s : State) : (placeByte a v s).im = s.im := rfl
@[simp] theorem placeByte_cycles (a : Word) (v : Octet) (s : State) : (placeByte a v s).cycles = s.cycles := rfl
@[simp] theorem placeByte_resetReq (a : Word) (v : Octet) (s : State) : (placeByte a v s).resetReq = s.resetReq := rfl
@[simp] theorem placeByte_nmiLine (a : Word) (v : Octet) (s : State) : (placeByte a v s).nmiLine = s.nmiLine := rfl
@[simp] theorem placeByte_intLine (a : Word) (v : Octet) (s : State) : (placeByte a v s).intLine = s.intLine := rfl
@[simp] theorem placeByte_ackQueue (a : Word) (v : Octet) (s : State) : (placeByte a v s).ackQueue = s.ackQueue := rfl
@[simp] theorem placeByte_draws (a : Word) (v : Octet) (s : State) : (placeByte a v s).draws = s.draws := rfl
@[simp] theorem placeByte_trace (a : Word) (v : Octet) (s : State) : (placeByte a v s).trace = s.trace := rfl
@[simp] theorem placeByte_mem (a : Word) (v : Octet) (s : State) : (placeByte a v s).mem = Memory.put s.mem a v := rfl

/-! ## startStep -/

@[simp] theorem startStep_af (s : State) : (startStep s).af = s.af := rfl
@[simp] theorem startStep_bc (s : State) : (startStep s).bc = s.bc := rfl
@[simp] theorem startStep_de (s : State) : (startStep s).de = s.de := rfl
@[simp] theorem startStep_hl (s : State) : (startStep s).hl = s.hl := rfl
@[simp] theorem startStep_af' (s : State) : (startStep s).af' = s.af' := rfl
@[simp] theorem startStep_bc' (s : State) : (startStep s).bc' = s.bc' := rfl
@[simp] theorem startStep_de' (s : State) : (startStep s).de' = s.de' := rfl
@[simp] theorem startStep_hl' (s : State) : (startStep s).hl' = s.hl' := rfl
@[simp] theorem startStep_pc (s : State) : (startStep s).pc = s.pc := rfl
@[simp] theorem startStep_sp (s : State) : (startStep s).sp = s.sp := rfl
@[simp] theorem startStep_i (s : State) : (startStep s).i = s.i := rfl
@[simp] theorem startStep_iff1 (s : State) : (startStep s).iff1 = s.iff1 := rfl
@[simp] theorem startStep_iff2 (s : State) : (startStep s).iff2 = s.iff2 := rfl
@[simp] theorem startStep_nmiFF (s : State) : (startStep s).nmiFF = s.nmiFF := rfl
@[simp] theorem startStep_intFF (s : State) : (startStep s).intFF = s.intFF := rfl
@[simp] theorem startStep_eiFF (s : State) : (startStep s).eiFF = s.eiFF := rfl
@[simp] theorem startStep_im (s : State) : (startStep s).im = s.im := rfl
@[simp] theorem startStep_cycles (s : State) : (startStep s).cycles = s.cycles := rfl
@[simp] theorem startStep_resetReq (s : State) : (startStep s).resetReq = s.resetReq := rfl
@[simp] theorem startStep_nmiLine (s : State) : (startStep s).nmiLine = s.nmiLine := rfl
@[simp] theorem startStep_intLine (s : State) : (startStep s).intLine = s.intLine := rfl
@[simp] theorem startStep_mem (s : State) : (startStep s).mem = s.mem := rfl
@[simp] theorem startStep_busAnswers (s : State) : (startStep s).busAnswers = s.busAnswers := rfl
@[simp] theorem startStep_ackQueue (s : State) : (startStep s).ackQueue = s.ackQueue := rfl
@[simp] theorem startStep_draws (s : State) : (startStep s).draws = s.draws := rfl
@[simp] theorem startStep_trace (s : State) : (startStep s).trace = [] := rfl

end Sys2Proof.Machine
end

