-- ==== Sys2Proof/Laws/Memory.lean ====
section
/-! SUPPORT. Memory: a read after a write, and the canonical form that every memory operation keeps. The answers that the environment
has pending. -/

namespace Sys2Proof.Machine

/-! ## A read after a write -/

theorem read_erase (m : Memory) (a b : Nat) :
    Memory.read (Memory.erase m a) b = if b = a then Memory.unlisted else Memory.read m b := by
  induction m with
  | nil => simp [Memory.erase, Memory.read]
  | cons c m ih =>
    obtain ⟨x, v⟩ := c
    simp only [Memory.erase]
    split
    · subst_vars
      rw [ih]
      simp only [Memory.read]
      split <;> simp_all
    · simp only [Memory.read, ih]
      split <;> simp_all [eq_comm]

theorem read_insert (m : Memory) (a b : Nat) (v : Octet) :
    Memory.read (Memory.insert m a v) b = if b = a then v else Memory.read m b := by
  induction m with
  | nil => simp [Memory.insert, Memory.read]
  | cons c m ih =>
    obtain ⟨x, w⟩ := c
    simp only [Memory.insert]
    split
    · rename_i h
      simp only [Memory.read, ih]
      split
      · subst_vars
        rw [if_neg (by omega)]
      · rfl
    · split
      · subst_vars
        simp only [Memory.read]
        split <;> rfl
      · simp only [Memory.read]

/-- A read after a write to the same address gives the octet written; every other address reads as before. -/
theorem read_write (m : Memory) (a b : Nat) (v : Octet) :
    Memory.read (Memory.write m a v) b = if b = a then v else Memory.read m b := by
  unfold Memory.write
  split
  · rename_i h
    rw [read_erase, h]
  · exact read_insert m a b v

/-! ## The canonical form -/

theorem wf_cons (a : Nat) (v : Octet) (m : Memory) :
    Memory.wf ((a, v) :: m) = true ↔
      a < 65536 ∧ v ≠ Memory.unlisted ∧ (∀ c ∈ m, a < c.1) ∧ Memory.wf m = true := by
  simp [Memory.wf, and_assoc]

theorem mem_erase {m : Memory} {a : Nat} {c : Host.Cell} (h : c ∈ Memory.erase m a) : c ∈ m := by
  induction m with
  | nil => exact h
  | cons d m ih =>
    obtain ⟨x, v⟩ := d
    simp only [Memory.erase] at h
    split at h
    · exact List.mem_cons_of_mem _ (ih h)
    · rcases List.mem_cons.1 h with rfl | h
      · exact List.mem_cons_self
      · exact List.mem_cons_of_mem _ (ih h)

theorem wf_erase {m : Memory} (a : Nat) (h : Memory.wf m = true) : Memory.wf (Memory.erase m a) = true := by
  induction m with
  | nil => exact h
  | cons d m ih =>
    obtain ⟨x, v⟩ := d
    obtain ⟨h1, h2, h3, h4⟩ := (wf_cons _ _ _).1 h
    simp only [Memory.erase]
    split
    · exact ih h4
    · exact (wf_cons _ _ _).2 ⟨h1, h2, fun c hc => h3 c (mem_erase hc), ih h4⟩

theorem mem_insert {m : Memory} {a : Nat} {v : Octet} {c : Host.Cell} (h : c ∈ Memory.insert m a v) :
    c = (a, v) ∨ c ∈ m := by
  induction m with
  | nil => simpa [Memory.insert] using h
  | cons d m ih =>
    obtain ⟨x, w⟩ := d
    simp only [Memory.insert] at h
    split at h
    · rcases List.mem_cons.1 h with rfl | h
      · simp
      · rcases ih h with h | h <;> simp [h]
    · split at h
      · rcases List.mem_cons.1 h with rfl | h
        · simp
        · simp [h]
      · rcases List.mem_cons.1 h with rfl | h
        · simp
        · exact Or.inr h

theorem wf_insert {m : Memory} {a : Nat} {v : Octet} (ha : a < 65536) (hv : v ≠ Memory.unlisted)
    (h : Memory.wf m = true) : Memory.wf (Memory.insert m a v) = true := by
  induction m with
  | nil => exact (wf_cons _ _ _).2 ⟨ha, hv, by simp, rfl⟩
  | cons d m ih =>
    obtain ⟨x, w⟩ := d
    obtain ⟨h1, h2, h3, h4⟩ := (wf_cons _ _ _).1 h
    simp only [Memory.insert]
    split
    · rename_i hlt
      refine (wf_cons _ _ _).2 ⟨h1, h2, fun c hc => ?_, ih h4⟩
      rcases mem_insert hc with rfl | hc
      · exact hlt
      · exact h3 c hc
    · split
      · subst_vars
        exact (wf_cons _ _ _).2 ⟨ha, hv, h3, h4⟩
      · rename_i hge hne
        refine (wf_cons _ _ _).2 ⟨ha, hv, fun c hc => ?_, h⟩
        rcases List.mem_cons.1 hc with rfl | hc
        · show a < x
          omega
        · have : x < c.1 := h3 c hc
          omega

/-- A write below 2^16 keeps the canonical form. -/
theorem wf_write {m : Memory} {a : Nat} (v : Octet) (ha : a < 65536) (h : Memory.wf m = true) :
    Memory.wf (Memory.write m a v) = true := by
  unfold Memory.write
  split
  · exact wf_erase a h
  · rename_i hv
    exact wf_insert ha hv h

/-- A write at a Word address keeps the canonical form. -/
theorem wf_put {m : Memory} (a : Word) (v : Octet) (h : Memory.wf m = true) :
    Memory.wf (Memory.put m a v) = true := wf_write v a.isLt h

/-- The read-after-write law at Word addresses. -/
@[simp] theorem get_put (m : Memory) (a b : Word) (v : Octet) :
    Memory.get (Memory.put m a v) b = if b = a then v else Memory.get m b := by
  simp [Memory.get, Memory.put, read_write, BitVec.toNat_inj]

/-- The first entry of a canonical list is below every address that the rest lists, so the rest reads as unlisted there. -/
theorem read_below {m : Memory} {a : Nat} (h : ∀ c ∈ m, a < c.1) : Memory.read m a = Memory.unlisted := by
  induction m with
  | nil => rfl
  | cons d m ih =>
    obtain ⟨x, w⟩ := d
    have hx : a < x := h (x, w) List.mem_cons_self
    simp only [Memory.read]
    rw [if_neg (by omega)]
    exact ih fun c hc => h c (List.mem_cons_of_mem _ hc)

/-! ## Reading through a state -/

theorem peek_def (s : State) (a : Word) : s.peek a = Memory.get s.mem a := rfl

/-- A read of a state depends on its memory alone. -/
theorem peek_of_mem {s t : State} (h : t.mem = s.mem) (a : Word) : t.peek a = s.peek a := by
  rw [peek_def, peek_def, h]

@[simp] theorem peek_busWrite (a b : Word) (v : Octet) (s : State) :
    (busWrite a v s).peek b = if b = a then v else s.peek b := by
  simp [peek_def]

@[simp] theorem peek_storeByte (a b : Word) (v : Octet) (s : State) :
    (storeByte a v s).peek b = if b = a then v else s.peek b := by
  simp [peek_def]

/-! ## Pending answers (R61) -/

/-- A read of one address leaves what is pending for every other. -/
theorem pendingAnswer_dropAnswer_ne (q : List (Word × Octet)) {a b : Word} (h : b ≠ a) :
    pendingAnswer (dropAnswer q a) b = pendingAnswer q b := by
  induction q with
  | nil => rfl
  | cons c q ih =>
    obtain ⟨x, v⟩ := c
    simp only [dropAnswer]
    split
    · subst_vars
      simp [pendingAnswer, h]
    · simp [pendingAnswer, ih]

/-- A read takes nothing where nothing is pending. -/
theorem dropAnswer_of_none {q : List (Word × Octet)} {a : Word} (h : pendingAnswer q a = none) : dropAnswer q a = q := by
  induction q with
  | nil => rfl
  | cons c q ih =>
    obtain ⟨x, v⟩ := c
    simp only [pendingAnswer] at h
    split at h
    · cases h
    · simp [dropAnswer, *]

/-- Reads of different addresses take their answers independently. -/
theorem dropAnswer_comm (q : List (Word × Octet)) {a b : Word} (h : a ≠ b) :
    dropAnswer (dropAnswer q a) b = dropAnswer (dropAnswer q b) a := by
  induction q with
  | nil => rfl
  | cons c q ih =>
    obtain ⟨x, v⟩ := c
    by_cases ha : a = x <;> by_cases hb : b = x <;> simp_all [dropAnswer]

/-- An answer made ready comes after those pending for the address. -/
theorem pendingAnswer_append (q : List (Word × Octet)) (a b : Word) (v : Octet) :
    pendingAnswer (q ++ [(a, v)]) b = (pendingAnswer q b).or (if b = a then some v else none) := by
  induction q with
  | nil => simp [pendingAnswer]
  | cons c q ih =>
    obtain ⟨x, w⟩ := c
    simp only [List.cons_append, pendingAnswer]
    split <;> simp [ih]

/-- Answers withdrawn at one address leave what is pending for every other, and nothing there. -/
theorem pendingAnswer_withdraw (q : List (Word × Octet)) (a b : Word) :
    pendingAnswer (q.filter fun p => decide (p.1 ≠ a)) b = if b = a then none else pendingAnswer q b := by
  induction q with
  | nil => simp [pendingAnswer]
  | cons c q ih =>
    obtain ⟨x, w⟩ := c
    by_cases hx : x = a
    · subst hx
      by_cases hb : b = x <;> simp_all [pendingAnswer]
    · by_cases hb : b = x <;> simp_all [pendingAnswer]

/-- Where nothing is pending the Bus answers what memory holds. -/
theorem answer_of_none {s : State} {a : Word} (h : pendingAnswer s.busAnswers a = none) : s.answer a = s.peek a := by
  simp [State.answer, h]

/-- What the Bus answers depends on the pending answers and the memory alone. -/
theorem answer_of_fields {s t : State} (h1 : t.busAnswers = s.busAnswers) (h2 : t.mem = s.mem) (a : Word) :
    t.answer a = s.answer a := by
  rw [State.answer, State.answer, h1, peek_of_mem h2]

/-- A read of one address leaves what the Bus answers at every other. -/
theorem answer_busRead_ne (s : State) {a b : Word} (h : b ≠ a) : (busRead a s).2.answer b = s.answer b := by
  simp [State.answer, pendingAnswer_dropAnswer_ne _ h, peek_def]

theorem word_succ_ne (a : Word) : a + 1 ≠ a := by bv_omega

/-- The second read of a Word access is of another address. -/
@[simp] theorem answer_busRead_succ (s : State) (a : Word) : (busRead a s).2.answer (a + 1) = s.answer (a + 1) :=
  answer_busRead_ne s (word_succ_ne a)

@[simp] theorem peek_busWriteWord (a w b : Word) (s : State) :
    (busWriteWord a w s).peek b = if b = a + 1 then hi w else if b = a then lo w else s.peek b := by
  simp [busWriteWord]

end Sys2Proof.Machine
end

