-- ==== Sys2Proof/Laws/Ops.lean ====
section
/-! SUPPORT. What each shared operation does, said once: values, registers, memory and the record of bus operations. -/

namespace Sys2Proof.Machine

/-! ## Registers (R23, R24) -/

@[simp] theorem r8_setR8_same (s : State) (r : Reg8) (v : Octet) : (s.setR8 r v).r8 r = v := by
  cases r <;> simp [State.setR8, State.r8]

/-- A write of one half leaves every other half (R24). -/
theorem r8_setR8_ne (s : State) {r x : Reg8} (v : Octet) (h : x ≠ r) : (s.setR8 r v).r8 x = s.r8 x := by
  cases r <;> cases x <;> simp_all [State.setR8, State.r8]

@[simp] theorem f_setR8 (s : State) (r : Reg8) (v : Octet) : (s.setR8 r v).f = s.f := by
  cases r <;> simp [State.setR8, State.f]

@[simp] theorem a_setR8_A (s : State) (v : Octet) : (s.setR8 .A v).a = v := by simp [State.setR8, State.a]

@[simp] theorem f_setF (s : State) (v : Octet) : (s.setF v).f = v := by simp [State.setF, State.f]

@[simp] theorem r8_setF (s : State) (v : Octet) (x : Reg8) : (s.setF v).r8 x = s.r8 x := by
  cases x <;> simp [State.setF, State.r8]

@[simp] theorem f_affect (s : State) (x : Affection) : (s.affect x).f = applyAff x s.f := by simp [State.affect]

@[simp] theorem r8_affect (s : State) (x : Affection) (r : Reg8) : (s.affect x).r8 r = s.r8 r := by simp [State.affect]

theorem r8_A (s : State) : s.r8 .A = s.a := rfl

/-- The 8-bit registers of a state are its pairs' halves. -/
theorem r8_of_pairs {s t : State} (h1 : t.af = s.af) (h2 : t.bc = s.bc) (h3 : t.de = s.de) (h4 : t.hl = s.hl) (r : Reg8) :
    t.r8 r = s.r8 r := by cases r <;> simp [State.r8, h1, h2, h3, h4]

@[simp] theorem r16_setR16_same (s : State) (p : Pair) (w : Word) : (s.setR16 p w).r16 p = w := by cases p <;> rfl

@[simp] theorem rqq_setRqq_same (s : State) (q : StackPair) (w : Word) : (s.setRqq q w).rqq q = w := by cases q <;> rfl

/-! ## Bus operations -/

@[simp] theorem busRead_value (a : Word) (s : State) : (busRead a s).1 = s.answer a := rfl

@[simp] theorem peek_busRead (a b : Word) (s : State) : (busRead a s).2.peek b = s.peek b := rfl

@[simp] theorem busReadWord_value (a : Word) (s : State) :
    (busReadWord a s).1 = mkWord (s.answer (a + 1)) (s.answer a) := by
  show mkWord ((busRead a s).2.answer (a + 1)) (s.answer a) = _
  rw [answer_busRead_succ]

/-- The record of a Word read: low octet first (R66). -/
@[simp] theorem busReadWord_trace (a : Word) (s : State) :
    (busReadWord a s).2.trace = s.trace ++ [.read a (s.answer a)] ++ [.read (a + 1) (s.answer (a + 1))] := by
  show s.trace ++ [.read a (s.answer a)] ++ [.read (a + 1) ((busRead a s).2.answer (a + 1))] = _
  rw [answer_busRead_succ]

/-- Everything a Word read does to the state. -/
theorem busReadWord_state (a : Word) (s : State) :
    (busReadWord a s).2 =
      { s with busAnswers := dropAnswer (dropAnswer s.busAnswers a) (a + 1),
               trace := s.trace ++ [.read a (s.answer a), .read (a + 1) (s.answer (a + 1))] } := by
  have h : (busReadWord a s).2.trace = s.trace ++ [.read a (s.answer a), .read (a + 1) (s.answer (a + 1))] := by simp
  rw [← h]
  rfl

/-- Everything `Pop` does (R251). -/
theorem pop_eq (s : State) :
    pop s = (mkWord (s.answer (s.sp + 1)) (s.answer s.sp),
      { s with sp := s.sp + 2, busAnswers := dropAnswer (dropAnswer s.busAnswers s.sp) (s.sp + 1),
               trace := s.trace ++ [.read s.sp (s.answer s.sp), .read (s.sp + 1) (s.answer (s.sp + 1))] }) := by
  simp only [pop, busReadWord_value]
  rw [busReadWord_state]

@[simp] theorem peek_busReadWord (a b : Word) (s : State) : (busReadWord a s).2.peek b = s.peek b := rfl

@[simp] theorem pop_value (s : State) : (pop s).1 = mkWord (s.answer (s.sp + 1)) (s.answer s.sp) :=
  busReadWord_value s.sp s

@[simp] theorem pop_trace (s : State) :
    (pop s).2.trace = s.trace ++ [.read s.sp (s.answer s.sp)] ++ [.read (s.sp + 1) (s.answer (s.sp + 1))] :=
  busReadWord_trace s.sp s

@[simp] theorem peek_pop (b : Word) (s : State) : (pop s).2.peek b = s.peek b := rfl

@[simp] theorem peek_push (w b : Word) (s : State) :
    (push w s).peek b = if b = s.sp - 2 + 1 then hi w else if b = s.sp - 2 then lo w else s.peek b := by
  simp [push, peek_def]

@[simp] theorem peek_call (d b : Word) (s : State) :
    (call d s).peek b = if b = s.sp - 2 + 1 then hi s.pc else if b = s.sp - 2 then lo s.pc else s.peek b := by
  simp [peek_def]

@[simp] theorem peek_retire (l : Word) (n : BitVec 64) (s : State) (b : Word) : (retire l n s).peek b = s.peek b := rfl

@[simp] theorem peek_jumpTo (t : Word) (n : BitVec 64) (s : State) (b : Word) : (jumpTo t n s).peek b = s.peek b := rfl

@[simp] theorem peek_charge (n : BitVec 64) (s : State) (b : Word) : (charge n s).peek b = s.peek b := rfl

/-- The acknowledge is recorded with the octet it returned. -/
@[simp] theorem intAck_trace (s : State) : (intAck s).2.trace = s.trace ++ [.ack (intAck s).1] := by
  unfold intAck
  split <;> rfl

/-- Everything an acknowledge can do (R64): the environment's next octet, or the next free value. -/
theorem intAck_cases (s : State) :
    (∃ v rest, s.ackQueue = v :: rest ∧ intAck s = (v, { s with ackQueue := rest, trace := s.trace ++ [.ack v] })) ∨
    (s.ackQueue = [] ∧ intAck s = (Config.ackOctet s.draws,
      { s with draws := s.draws + 1, trace := s.trace ++ [.ack (Config.ackOctet s.draws)] })) := by
  unfold intAck
  split
  · rename_i v rest h
    exact .inl ⟨v, rest, h, rfl⟩
  · rename_i h
    exact .inr ⟨h, rfl⟩

/-! ## The operand of an accumulator operation (R208) -/

/-- Reading the operand changes nothing but the pending answers and the record of bus operations. -/
theorem readSource_state (src : AluSource) (s : State) :
    (readSource src s).2 =
      { s with busAnswers := (readSource src s).2.busAnswers, trace := (readSource src s).2.trace } := by cases src <;> rfl

/-! ## The canonical form through the operations -/

theorem wf_busWriteWord {s : State} (a w : Word) (h : Memory.wf s.mem = true) :
    Memory.wf (busWriteWord a w s).mem = true := by
  simpa using wf_put _ _ (wf_put _ _ h)

theorem wf_call {s : State} (d : Word) (h : Memory.wf s.mem = true) : Memory.wf (call d s).mem = true := by
  simpa using wf_put _ _ (wf_put _ _ h)

end Sys2Proof.Machine
end

