-- ==== Sys2Proof/Laws/Step.lean ====
section
/-! SUPPORT. What a step can do, said once: the four stages of R300 with their conditions. -/

namespace Sys2Proof.Machine

theorem step_reset {s : State} (h : s.resetReq = true) : step s = .next (resetStage (startStep s)) := by
  simp [step, arbitrate, h]

theorem step_nmi {s : State} (h1 : s.resetReq = false) (h2 : s.nmiFF = true) :
    step s = .next (nmiStage (startStep s)) := by
  simp [step, arbitrate, h1, h2]

theorem step_int {s : State} (h1 : s.resetReq = false) (h2 : s.nmiFF = false) (h3 : intAccepted s = true) :
    step s = intStage (startStep s) := by
  simp [step, arbitrate, h1, h2, h3]

theorem step_instruction {s : State} (h1 : s.resetReq = false) (h2 : s.nmiFF = false) (h3 : intAccepted s = false) :
    step s = instructionStage (startStep s) := by
  simp [step, arbitrate, h1, h2, h3]

/-- Stage 4 after its opcode fetch: one read at PC, EI_FF cleared (R305, R309). -/
theorem instructionStage_startStep (s : State) :
    instructionStage (startStep s) = executeOpcode (s.answer s.pc)
      { s with eiFF := false, busAnswers := dropAnswer s.busAnswers s.pc, trace := [.read s.pc (s.answer s.pc)] } := rfl

/-- Exactly one of the four stages happens in a step (R300). -/
theorem step_cases (s : State) :
    (s.resetReq = true ∧ step s = .next (resetStage (startStep s))) ∨
    (s.resetReq = false ∧ s.nmiFF = true ∧ step s = .next (nmiStage (startStep s))) ∨
    (s.resetReq = false ∧ s.nmiFF = false ∧ intAccepted s = true ∧ step s = intStage (startStep s)) ∨
    (s.resetReq = false ∧ s.nmiFF = false ∧ intAccepted s = false ∧ step s = instructionStage (startStep s)) := by
  rcases h1 : s.resetReq with _ | _
  · rcases h2 : s.nmiFF with _ | _
    · rcases h3 : intAccepted s with _ | _
      · exact .inr (.inr (.inr ⟨rfl, rfl, rfl, step_instruction h1 h2 h3⟩))
      · exact .inr (.inr (.inl ⟨rfl, rfl, rfl, step_int h1 h2 h3⟩))
    · exact .inr (.inl ⟨rfl, rfl, step_nmi h1 h2⟩)
  · exact .inl ⟨rfl, step_reset h1⟩

/-- Everything that completing a fetch can do: the instruction, and the immediates' reads added to the record (R94 to R96). -/
theorem completeFetch_cases (op : Octet) (s : State) :
    (∃ i, dispatch op = .op i ∧ completeFetch op s = (i, s)) ∨
    (∃ f, (dispatch op = .opN f ∨ dispatch op = .opE f) ∧
      completeFetch op s = (f (s.answer (s.pc + 1)), (busRead (s.pc + 1) s).2)) ∨
    (∃ f, dispatch op = .opNN f ∧
      completeFetch op s = (f (mkWord (s.answer (s.pc + 1 + 1)) (s.answer (s.pc + 1))), (busReadWord (s.pc + 1) s).2)) := by
  unfold completeFetch
  split
  · rename_i i h
    exact .inl ⟨i, h, rfl⟩
  · rename_i f h
    exact .inr (.inl ⟨f, .inl h, rfl⟩)
  · rename_i f h
    exact .inr (.inl ⟨f, .inr h, rfl⟩)
  · rename_i f h
    exact .inr (.inr ⟨f, h, by rw [busReadWord_value]⟩)

/-- Completing a fetch changes nothing but the pending answers and the record of bus operations. -/
theorem completeFetch_state (op : Octet) (s : State) :
    (completeFetch op s).2 =
      { s with busAnswers := (completeFetch op s).2.busAnswers, trace := (completeFetch op s).2.trace } := by
  unfold completeFetch
  split <;> rfl

end Sys2Proof.Machine
end

