-- ==== Sys2Proof/Laws/Forms.lean ====
section
/-! SUPPORT. The meaning of each form of R106 as the shared operation it runs, and how a first byte is fetched by its format. -/

namespace Sys2Proof.Machine

/-! ## Fetching -/

theorem fetchesOne_of {op : Octet} {i : Instr} (h : dispatch op = .op i) : FetchesOne op i := fun s => by
  simp [completeFetch, h]

theorem fetchesOctet_of {op : Octet} {f : Octet → Instr} (h : dispatch op = .opN f ∨ dispatch op = .opE f) :
    FetchesOctet op f := fun s => by
  rcases h with h | h <;> simp [completeFetch, h, busRead]

theorem fetchesWord_of {op : Octet} {f : Word → Instr} (h : dispatch op = .opNN f) : FetchesWord op f := fun s => by
  simp only [completeFetch, h, busReadWord_value]
  exact congrArg (Prod.mk _) (busReadWord_state _ s)

/-! ## Meanings by form -/

theorem exec_nop (s : State) : exec (Form.instr .nop) s = .next (nop s) := rfl
theorem exec_exAF (s : State) : exec (Form.instr .exAF) s = .next (exchangeAF s) := rfl
theorem exec_djnz (e : Octet) (s : State) : exec (Form.instr (.djnz e)) s = .next (decJumpRel e s) := rfl
theorem exec_jr (e : Octet) (s : State) : exec (Form.instr (.jr e)) s = .next (jumpRel e s) := rfl
theorem exec_jrIf (cc : ShortCond) (e : Octet) (s : State) : exec (Form.instr (.jrIf cc e)) s = .next (jumpRelIf cc e s) := by
  cases cc <;> rfl
theorem exec_ldPairImm (dd : Pair) (nn : Word) (s : State) :
    exec (Form.instr (.ldPairImm dd nn)) s = .next (loadPairImm dd nn s) := by cases dd <;> rfl
theorem exec_addHL (ss : Pair) (s : State) : exec (Form.instr (.addHL ss)) s = .next (addHL ss s) := by cases ss <;> rfl
theorem exec_storeA (p : Pointer) (s : State) : exec (Form.instr (.storeA p)) s = .next (storeA p s) := by cases p <;> rfl
theorem exec_loadA (p : Pointer) (s : State) : exec (Form.instr (.loadA p)) s = .next (loadA p s) := by cases p <;> rfl
theorem exec_storeHLAt (nn : Word) (s : State) : exec (Form.instr (.storeHLAt nn)) s = .next (storeHLAt nn s) := rfl
theorem exec_loadHLFrom (nn : Word) (s : State) : exec (Form.instr (.loadHLFrom nn)) s = .next (loadHLFrom nn s) := rfl
theorem exec_storeAAt (nn : Word) (s : State) : exec (Form.instr (.storeAAt nn)) s = .next (storeAAt nn s) := rfl
theorem exec_loadAFrom (nn : Word) (s : State) : exec (Form.instr (.loadAFrom nn)) s = .next (loadAFrom nn s) := rfl
theorem exec_incPair (ss : Pair) (s : State) : exec (Form.instr (.incPair ss)) s = .next (incPair ss s) := by cases ss <;> rfl
theorem exec_decPair (ss : Pair) (s : State) : exec (Form.instr (.decPair ss)) s = .next (decPair ss s) := by cases ss <;> rfl
theorem exec_incReg (r : Reg8) (s : State) : exec (Form.instr (.incReg r)) s = .next (incReg r s) := by cases r <;> rfl
theorem exec_incMem (s : State) : exec (Form.instr .incMem) s = .next (incMem s) := rfl
theorem exec_decReg (r : Reg8) (s : State) : exec (Form.instr (.decReg r)) s = .next (decReg r s) := by cases r <;> rfl
theorem exec_decMem (s : State) : exec (Form.instr .decMem) s = .next (decMem s) := rfl
theorem exec_ldRegImm (r : Reg8) (n : Octet) (s : State) : exec (Form.instr (.ldRegImm r n)) s = .next (loadRegImm r n s) := by
  cases r <;> rfl
theorem exec_storeImm (n : Octet) (s : State) : exec (Form.instr (.storeImm n)) s = .next (storeImm n s) := rfl
theorem exec_daa (s : State) : exec (Form.instr .daa) s = .next (decimalAdjust s) := rfl
theorem exec_cpl (s : State) : exec (Form.instr .cpl) s = .next (complementA s) := rfl
theorem exec_scf (s : State) : exec (Form.instr .scf) s = .next (setCarry s) := rfl
theorem exec_ccf (s : State) : exec (Form.instr .ccf) s = .next (complementCarry s) := rfl
theorem exec_ldReg (d r : Reg8) (s : State) : exec (Form.instr (.ldReg d r)) s = .next (loadReg d r s) := by
  cases d <;> cases r <;> rfl
theorem exec_ldRegMem (d : Reg8) (s : State) : exec (Form.instr (.ldRegMem d)) s = .next (loadRegMem d s) := by cases d <;> rfl
theorem exec_storeReg (r : Reg8) (s : State) : exec (Form.instr (.storeReg r)) s = .next (storeReg r s) := by cases r <;> rfl
theorem exec_retIf (cc : Cond) (s : State) : exec (Form.instr (.retIf cc)) s = .next (retIf cc s) := by cases cc <;> rfl
theorem exec_popForm (qq : StackPair) (s : State) : exec (Form.instr (.pop qq)) s = .next (popPair qq s) := by cases qq <;> rfl
theorem exec_pushForm (qq : StackPair) (s : State) : exec (Form.instr (.push qq)) s = .next (pushPair qq s) := by cases qq <;> rfl
theorem exec_ret (s : State) : exec (Form.instr .ret) s = .next (ret s) := rfl
theorem exec_exx (s : State) : exec (Form.instr .exx) s = .next (exchangeAll s) := rfl
theorem exec_jpHL (s : State) : exec (Form.instr .jpHL) s = .next (jumpHL s) := rfl
theorem exec_ldSPHL (s : State) : exec (Form.instr .ldSPHL) s = .next (loadSPHL s) := rfl
theorem exec_jpIf (cc : Cond) (nn : Word) (s : State) : exec (Form.instr (.jpIf cc nn)) s = .next (jumpIf cc nn s) := by
  cases cc <;> rfl
theorem exec_jp (nn : Word) (s : State) : exec (Form.instr (.jp nn)) s = .next (jump nn s) := rfl
theorem exec_exStack (s : State) : exec (Form.instr .exStack) s = .next (exchangeStack s) := rfl
theorem exec_exDEHL (s : State) : exec (Form.instr .exDEHL) s = .next (exchangeDEHL s) := rfl
theorem exec_di (s : State) : exec (Form.instr .di) s = .next (disableInt s) := rfl
theorem exec_ei (s : State) : exec (Form.instr .ei) s = .next (enableInt s) := rfl
theorem exec_callIf (cc : Cond) (nn : Word) (s : State) : exec (Form.instr (.callIf cc nn)) s = .next (callIf cc nn s) := by
  cases cc <;> rfl
theorem exec_callAt (nn : Word) (s : State) : exec (Form.instr (.callAt nn)) s = .next (callAt nn s) := rfl
theorem exec_rst (k : Fin 8) (s : State) : exec (Form.instr (.rst k)) s = .next (restart k s) := by
  fin_cases k <;> rfl
theorem exec_illegal (op : Octet) (s : State) : exec (Form.instr (.illegal op)) s = .fault (.illegalOpcode op s) := rfl

theorem exec_add (src : AluSource) (s : State) : exec (Form.instr (.alu .add src)) s = .next (addA src s) := by
  rcases src with r | _ | n <;> first | rfl | (cases r <;> rfl)
theorem exec_adc (src : AluSource) (s : State) : exec (Form.instr (.alu .adc src)) s = .next (adcA src s) := by
  rcases src with r | _ | n <;> first | rfl | (cases r <;> rfl)
theorem exec_sub (src : AluSource) (s : State) : exec (Form.instr (.alu .sub src)) s = .next (subA src s) := by
  rcases src with r | _ | n <;> first | rfl | (cases r <;> rfl)
theorem exec_sbc (src : AluSource) (s : State) : exec (Form.instr (.alu .sbc src)) s = .next (sbcA src s) := by
  rcases src with r | _ | n <;> first | rfl | (cases r <;> rfl)
theorem exec_and (src : AluSource) (s : State) : exec (Form.instr (.alu .and src)) s = .next (andA src s) := by
  rcases src with r | _ | n <;> first | rfl | (cases r <;> rfl)
theorem exec_xor (src : AluSource) (s : State) : exec (Form.instr (.alu .xor src)) s = .next (xorA src s) := by
  rcases src with r | _ | n <;> first | rfl | (cases r <;> rfl)
theorem exec_or (src : AluSource) (s : State) : exec (Form.instr (.alu .or src)) s = .next (orA src s) := by
  rcases src with r | _ | n <;> first | rfl | (cases r <;> rfl)
theorem exec_cp (src : AluSource) (s : State) : exec (Form.instr (.alu .cp src)) s = .next (cpA src s) := by
  rcases src with r | _ | n <;> first | rfl | (cases r <;> rfl)

/-- The rotate each code names (R214 to R217). -/
theorem exec_rotate (k : Rotation) (s : State) :
    exec (Form.instr (.rotate k)) s = .next (rotateA (match k with
      | .rlca => fun a _ => rotLeftCircular a
      | .rrca => fun a _ => rotRightCircular a
      | .rla => rotLeftCarry
      | .rra => rotRightCarry) s) := by cases k <;> rfl

end Sys2Proof.Machine
end

