-- ==== Sys2Proof/Laws/PerInstr.lean ====
section
/-! SUPPORT. Lemmas made once per constructor of Instr: the encoding has the length that the first byte alone decides (R109). -/

namespace Sys2Proof

/-- The encoding of a well-formed instruction is as long as its first byte says (R91, R109). -/
def Laws.EncodedLength.Statement (i : Instr) : Prop :=
  wellFormed i = true → (encode i).length = variantLength (dispatch (opcodeOf i))

theorem Laws.EncodedLength.ld_BC_nn (nn : Word) : Laws.EncodedLength.Statement (.ld_BC_nn nn) := fun _ => show _ = variantLength (dispatch 0x01) from rfl
theorem Laws.EncodedLength.ld_B_n (n : Octet) : Laws.EncodedLength.Statement (.ld_B_n n) := fun _ => show _ = variantLength (dispatch 0x06) from rfl
theorem Laws.EncodedLength.ld_C_n (n : Octet) : Laws.EncodedLength.Statement (.ld_C_n n) := fun _ => show _ = variantLength (dispatch 0x0E) from rfl
theorem Laws.EncodedLength.djnz_e (e : Octet) : Laws.EncodedLength.Statement (.djnz_e e) := fun _ => show _ = variantLength (dispatch 0x10) from rfl
theorem Laws.EncodedLength.ld_DE_nn (nn : Word) : Laws.EncodedLength.Statement (.ld_DE_nn nn) := fun _ => show _ = variantLength (dispatch 0x11) from rfl
theorem Laws.EncodedLength.ld_D_n (n : Octet) : Laws.EncodedLength.Statement (.ld_D_n n) := fun _ => show _ = variantLength (dispatch 0x16) from rfl
theorem Laws.EncodedLength.jr_e (e : Octet) : Laws.EncodedLength.Statement (.jr_e e) := fun _ => show _ = variantLength (dispatch 0x18) from rfl
theorem Laws.EncodedLength.ld_E_n (n : Octet) : Laws.EncodedLength.Statement (.ld_E_n n) := fun _ => show _ = variantLength (dispatch 0x1E) from rfl
theorem Laws.EncodedLength.jr_NZ_e (e : Octet) : Laws.EncodedLength.Statement (.jr_NZ_e e) := fun _ => show _ = variantLength (dispatch 0x20) from rfl
theorem Laws.EncodedLength.ld_HL_nn (nn : Word) : Laws.EncodedLength.Statement (.ld_HL_nn nn) := fun _ => show _ = variantLength (dispatch 0x21) from rfl
theorem Laws.EncodedLength.ld_mNN_HL (nn : Word) : Laws.EncodedLength.Statement (.ld_mNN_HL nn) := fun _ => show _ = variantLength (dispatch 0x22) from rfl
theorem Laws.EncodedLength.ld_H_n (n : Octet) : Laws.EncodedLength.Statement (.ld_H_n n) := fun _ => show _ = variantLength (dispatch 0x26) from rfl
theorem Laws.EncodedLength.jr_Z_e (e : Octet) : Laws.EncodedLength.Statement (.jr_Z_e e) := fun _ => show _ = variantLength (dispatch 0x28) from rfl
theorem Laws.EncodedLength.ld_HL_mNN (nn : Word) : Laws.EncodedLength.Statement (.ld_HL_mNN nn) := fun _ => show _ = variantLength (dispatch 0x2A) from rfl
theorem Laws.EncodedLength.ld_L_n (n : Octet) : Laws.EncodedLength.Statement (.ld_L_n n) := fun _ => show _ = variantLength (dispatch 0x2E) from rfl
theorem Laws.EncodedLength.jr_NC_e (e : Octet) : Laws.EncodedLength.Statement (.jr_NC_e e) := fun _ => show _ = variantLength (dispatch 0x30) from rfl
theorem Laws.EncodedLength.ld_SP_nn (nn : Word) : Laws.EncodedLength.Statement (.ld_SP_nn nn) := fun _ => show _ = variantLength (dispatch 0x31) from rfl
theorem Laws.EncodedLength.ld_mNN_A (nn : Word) : Laws.EncodedLength.Statement (.ld_mNN_A nn) := fun _ => show _ = variantLength (dispatch 0x32) from rfl
theorem Laws.EncodedLength.ld_mHL_n (n : Octet) : Laws.EncodedLength.Statement (.ld_mHL_n n) := fun _ => show _ = variantLength (dispatch 0x36) from rfl
theorem Laws.EncodedLength.jr_C_e (e : Octet) : Laws.EncodedLength.Statement (.jr_C_e e) := fun _ => show _ = variantLength (dispatch 0x38) from rfl
theorem Laws.EncodedLength.ld_A_mNN (nn : Word) : Laws.EncodedLength.Statement (.ld_A_mNN nn) := fun _ => show _ = variantLength (dispatch 0x3A) from rfl
theorem Laws.EncodedLength.ld_A_n (n : Octet) : Laws.EncodedLength.Statement (.ld_A_n n) := fun _ => show _ = variantLength (dispatch 0x3E) from rfl
theorem Laws.EncodedLength.illegal (op : Octet) : Laws.EncodedLength.Statement (.illegal op) := by
  intro h
  simp only [wellFormed, illegalByteOk, illegalFirstBytes, List.contains_iff_mem, List.mem_cons, List.not_mem_nil, or_false] at h
  rcases h with rfl | rfl | rfl | rfl | rfl | rfl | rfl <;> rfl
theorem Laws.EncodedLength.jp_NZ_nn (nn : Word) : Laws.EncodedLength.Statement (.jp_NZ_nn nn) := fun _ => show _ = variantLength (dispatch 0xC2) from rfl
theorem Laws.EncodedLength.jp_nn (nn : Word) : Laws.EncodedLength.Statement (.jp_nn nn) := fun _ => show _ = variantLength (dispatch 0xC3) from rfl
theorem Laws.EncodedLength.call_NZ_nn (nn : Word) : Laws.EncodedLength.Statement (.call_NZ_nn nn) := fun _ => show _ = variantLength (dispatch 0xC4) from rfl
theorem Laws.EncodedLength.add_A_n (n : Octet) : Laws.EncodedLength.Statement (.add_A_n n) := fun _ => show _ = variantLength (dispatch 0xC6) from rfl
theorem Laws.EncodedLength.jp_Z_nn (nn : Word) : Laws.EncodedLength.Statement (.jp_Z_nn nn) := fun _ => show _ = variantLength (dispatch 0xCA) from rfl
theorem Laws.EncodedLength.call_Z_nn (nn : Word) : Laws.EncodedLength.Statement (.call_Z_nn nn) := fun _ => show _ = variantLength (dispatch 0xCC) from rfl
theorem Laws.EncodedLength.call_nn (nn : Word) : Laws.EncodedLength.Statement (.call_nn nn) := fun _ => show _ = variantLength (dispatch 0xCD) from rfl
theorem Laws.EncodedLength.adc_A_n (n : Octet) : Laws.EncodedLength.Statement (.adc_A_n n) := fun _ => show _ = variantLength (dispatch 0xCE) from rfl
theorem Laws.EncodedLength.jp_NC_nn (nn : Word) : Laws.EncodedLength.Statement (.jp_NC_nn nn) := fun _ => show _ = variantLength (dispatch 0xD2) from rfl
theorem Laws.EncodedLength.call_NC_nn (nn : Word) : Laws.EncodedLength.Statement (.call_NC_nn nn) := fun _ => show _ = variantLength (dispatch 0xD4) from rfl
theorem Laws.EncodedLength.sub_n (n : Octet) : Laws.EncodedLength.Statement (.sub_n n) := fun _ => show _ = variantLength (dispatch 0xD6) from rfl
theorem Laws.EncodedLength.jp_C_nn (nn : Word) : Laws.EncodedLength.Statement (.jp_C_nn nn) := fun _ => show _ = variantLength (dispatch 0xDA) from rfl
theorem Laws.EncodedLength.call_C_nn (nn : Word) : Laws.EncodedLength.Statement (.call_C_nn nn) := fun _ => show _ = variantLength (dispatch 0xDC) from rfl
theorem Laws.EncodedLength.sbc_A_n (n : Octet) : Laws.EncodedLength.Statement (.sbc_A_n n) := fun _ => show _ = variantLength (dispatch 0xDE) from rfl
theorem Laws.EncodedLength.jp_PO_nn (nn : Word) : Laws.EncodedLength.Statement (.jp_PO_nn nn) := fun _ => show _ = variantLength (dispatch 0xE2) from rfl
theorem Laws.EncodedLength.call_PO_nn (nn : Word) : Laws.EncodedLength.Statement (.call_PO_nn nn) := fun _ => show _ = variantLength (dispatch 0xE4) from rfl
theorem Laws.EncodedLength.and_n (n : Octet) : Laws.EncodedLength.Statement (.and_n n) := fun _ => show _ = variantLength (dispatch 0xE6) from rfl
theorem Laws.EncodedLength.jp_PE_nn (nn : Word) : Laws.EncodedLength.Statement (.jp_PE_nn nn) := fun _ => show _ = variantLength (dispatch 0xEA) from rfl
theorem Laws.EncodedLength.call_PE_nn (nn : Word) : Laws.EncodedLength.Statement (.call_PE_nn nn) := fun _ => show _ = variantLength (dispatch 0xEC) from rfl
theorem Laws.EncodedLength.xor_n (n : Octet) : Laws.EncodedLength.Statement (.xor_n n) := fun _ => show _ = variantLength (dispatch 0xEE) from rfl
theorem Laws.EncodedLength.jp_P_nn (nn : Word) : Laws.EncodedLength.Statement (.jp_P_nn nn) := fun _ => show _ = variantLength (dispatch 0xF2) from rfl
theorem Laws.EncodedLength.call_P_nn (nn : Word) : Laws.EncodedLength.Statement (.call_P_nn nn) := fun _ => show _ = variantLength (dispatch 0xF4) from rfl
theorem Laws.EncodedLength.or_n (n : Octet) : Laws.EncodedLength.Statement (.or_n n) := fun _ => show _ = variantLength (dispatch 0xF6) from rfl
theorem Laws.EncodedLength.jp_M_nn (nn : Word) : Laws.EncodedLength.Statement (.jp_M_nn nn) := fun _ => show _ = variantLength (dispatch 0xFA) from rfl
theorem Laws.EncodedLength.call_M_nn (nn : Word) : Laws.EncodedLength.Statement (.call_M_nn nn) := fun _ => show _ = variantLength (dispatch 0xFC) from rfl
theorem Laws.EncodedLength.cp_n (n : Octet) : Laws.EncodedLength.Statement (.cp_n n) := fun _ => show _ = variantLength (dispatch 0xFE) from rfl
theorem Laws.EncodedLength.nop : Laws.EncodedLength.Statement .nop := fun _ => rfl
theorem Laws.EncodedLength.ld_mBC_A : Laws.EncodedLength.Statement .ld_mBC_A := fun _ => rfl
theorem Laws.EncodedLength.inc_BC : Laws.EncodedLength.Statement .inc_BC := fun _ => rfl
theorem Laws.EncodedLength.inc_B : Laws.EncodedLength.Statement .inc_B := fun _ => rfl
theorem Laws.EncodedLength.dec_B : Laws.EncodedLength.Statement .dec_B := fun _ => rfl
theorem Laws.EncodedLength.rlca : Laws.EncodedLength.Statement .rlca := fun _ => rfl
theorem Laws.EncodedLength.ex_AF_AFalt : Laws.EncodedLength.Statement .ex_AF_AFalt := fun _ => rfl
theorem Laws.EncodedLength.add_HL_BC : Laws.EncodedLength.Statement .add_HL_BC := fun _ => rfl
theorem Laws.EncodedLength.ld_A_mBC : Laws.EncodedLength.Statement .ld_A_mBC := fun _ => rfl
theorem Laws.EncodedLength.dec_BC : Laws.EncodedLength.Statement .dec_BC := fun _ => rfl
theorem Laws.EncodedLength.inc_C : Laws.EncodedLength.Statement .inc_C := fun _ => rfl
theorem Laws.EncodedLength.dec_C : Laws.EncodedLength.Statement .dec_C := fun _ => rfl
theorem Laws.EncodedLength.rrca : Laws.EncodedLength.Statement .rrca := fun _ => rfl
theorem Laws.EncodedLength.ld_mDE_A : Laws.EncodedLength.Statement .ld_mDE_A := fun _ => rfl
theorem Laws.EncodedLength.inc_DE : Laws.EncodedLength.Statement .inc_DE := fun _ => rfl
theorem Laws.EncodedLength.inc_D : Laws.EncodedLength.Statement .inc_D := fun _ => rfl
theorem Laws.EncodedLength.dec_D : Laws.EncodedLength.Statement .dec_D := fun _ => rfl
theorem Laws.EncodedLength.rla : Laws.EncodedLength.Statement .rla := fun _ => rfl
theorem Laws.EncodedLength.add_HL_DE : Laws.EncodedLength.Statement .add_HL_DE := fun _ => rfl
theorem Laws.EncodedLength.ld_A_mDE : Laws.EncodedLength.Statement .ld_A_mDE := fun _ => rfl
theorem Laws.EncodedLength.dec_DE : Laws.EncodedLength.Statement .dec_DE := fun _ => rfl
theorem Laws.EncodedLength.inc_E : Laws.EncodedLength.Statement .inc_E := fun _ => rfl
theorem Laws.EncodedLength.dec_E : Laws.EncodedLength.Statement .dec_E := fun _ => rfl
theorem Laws.EncodedLength.rra : Laws.EncodedLength.Statement .rra := fun _ => rfl
theorem Laws.EncodedLength.inc_HL : Laws.EncodedLength.Statement .inc_HL := fun _ => rfl
theorem Laws.EncodedLength.inc_H : Laws.EncodedLength.Statement .inc_H := fun _ => rfl
theorem Laws.EncodedLength.dec_H : Laws.EncodedLength.Statement .dec_H := fun _ => rfl
theorem Laws.EncodedLength.daa : Laws.EncodedLength.Statement .daa := fun _ => rfl
theorem Laws.EncodedLength.add_HL_HL : Laws.EncodedLength.Statement .add_HL_HL := fun _ => rfl
theorem Laws.EncodedLength.dec_HL : Laws.EncodedLength.Statement .dec_HL := fun _ => rfl
theorem Laws.EncodedLength.inc_L : Laws.EncodedLength.Statement .inc_L := fun _ => rfl
theorem Laws.EncodedLength.dec_L : Laws.EncodedLength.Statement .dec_L := fun _ => rfl
theorem Laws.EncodedLength.cpl : Laws.EncodedLength.Statement .cpl := fun _ => rfl
theorem Laws.EncodedLength.inc_SP : Laws.EncodedLength.Statement .inc_SP := fun _ => rfl
theorem Laws.EncodedLength.inc_mHL : Laws.EncodedLength.Statement .inc_mHL := fun _ => rfl
theorem Laws.EncodedLength.dec_mHL : Laws.EncodedLength.Statement .dec_mHL := fun _ => rfl
theorem Laws.EncodedLength.scf : Laws.EncodedLength.Statement .scf := fun _ => rfl
theorem Laws.EncodedLength.add_HL_SP : Laws.EncodedLength.Statement .add_HL_SP := fun _ => rfl
theorem Laws.EncodedLength.dec_SP : Laws.EncodedLength.Statement .dec_SP := fun _ => rfl
theorem Laws.EncodedLength.inc_A : Laws.EncodedLength.Statement .inc_A := fun _ => rfl
theorem Laws.EncodedLength.dec_A : Laws.EncodedLength.Statement .dec_A := fun _ => rfl
theorem Laws.EncodedLength.ccf : Laws.EncodedLength.Statement .ccf := fun _ => rfl
theorem Laws.EncodedLength.ld_B_B : Laws.EncodedLength.Statement .ld_B_B := fun _ => rfl
theorem Laws.EncodedLength.ld_B_C : Laws.EncodedLength.Statement .ld_B_C := fun _ => rfl
theorem Laws.EncodedLength.ld_B_D : Laws.EncodedLength.Statement .ld_B_D := fun _ => rfl
theorem Laws.EncodedLength.ld_B_E : Laws.EncodedLength.Statement .ld_B_E := fun _ => rfl
theorem Laws.EncodedLength.ld_B_H : Laws.EncodedLength.Statement .ld_B_H := fun _ => rfl
theorem Laws.EncodedLength.ld_B_L : Laws.EncodedLength.Statement .ld_B_L := fun _ => rfl
theorem Laws.EncodedLength.ld_B_mHL : Laws.EncodedLength.Statement .ld_B_mHL := fun _ => rfl
theorem Laws.EncodedLength.ld_B_A : Laws.EncodedLength.Statement .ld_B_A := fun _ => rfl
theorem Laws.EncodedLength.ld_C_B : Laws.EncodedLength.Statement .ld_C_B := fun _ => rfl
theorem Laws.EncodedLength.ld_C_C : Laws.EncodedLength.Statement .ld_C_C := fun _ => rfl
theorem Laws.EncodedLength.ld_C_D : Laws.EncodedLength.Statement .ld_C_D := fun _ => rfl
theorem Laws.EncodedLength.ld_C_E : Laws.EncodedLength.Statement .ld_C_E := fun _ => rfl
theorem Laws.EncodedLength.ld_C_H : Laws.EncodedLength.Statement .ld_C_H := fun _ => rfl
theorem Laws.EncodedLength.ld_C_L : Laws.EncodedLength.Statement .ld_C_L := fun _ => rfl
theorem Laws.EncodedLength.ld_C_mHL : Laws.EncodedLength.Statement .ld_C_mHL := fun _ => rfl
theorem Laws.EncodedLength.ld_C_A : Laws.EncodedLength.Statement .ld_C_A := fun _ => rfl
theorem Laws.EncodedLength.ld_D_B : Laws.EncodedLength.Statement .ld_D_B := fun _ => rfl
theorem Laws.EncodedLength.ld_D_C : Laws.EncodedLength.Statement .ld_D_C := fun _ => rfl
theorem Laws.EncodedLength.ld_D_D : Laws.EncodedLength.Statement .ld_D_D := fun _ => rfl
theorem Laws.EncodedLength.ld_D_E : Laws.EncodedLength.Statement .ld_D_E := fun _ => rfl
theorem Laws.EncodedLength.ld_D_H : Laws.EncodedLength.Statement .ld_D_H := fun _ => rfl
theorem Laws.EncodedLength.ld_D_L : Laws.EncodedLength.Statement .ld_D_L := fun _ => rfl
theorem Laws.EncodedLength.ld_D_mHL : Laws.EncodedLength.Statement .ld_D_mHL := fun _ => rfl
theorem Laws.EncodedLength.ld_D_A : Laws.EncodedLength.Statement .ld_D_A := fun _ => rfl
theorem Laws.EncodedLength.ld_E_B : Laws.EncodedLength.Statement .ld_E_B := fun _ => rfl
theorem Laws.EncodedLength.ld_E_C : Laws.EncodedLength.Statement .ld_E_C := fun _ => rfl
theorem Laws.EncodedLength.ld_E_D : Laws.EncodedLength.Statement .ld_E_D := fun _ => rfl
theorem Laws.EncodedLength.ld_E_E : Laws.EncodedLength.Statement .ld_E_E := fun _ => rfl
theorem Laws.EncodedLength.ld_E_H : Laws.EncodedLength.Statement .ld_E_H := fun _ => rfl
theorem Laws.EncodedLength.ld_E_L : Laws.EncodedLength.Statement .ld_E_L := fun _ => rfl
theorem Laws.EncodedLength.ld_E_mHL : Laws.EncodedLength.Statement .ld_E_mHL := fun _ => rfl
theorem Laws.EncodedLength.ld_E_A : Laws.EncodedLength.Statement .ld_E_A := fun _ => rfl
theorem Laws.EncodedLength.ld_H_B : Laws.EncodedLength.Statement .ld_H_B := fun _ => rfl
theorem Laws.EncodedLength.ld_H_C : Laws.EncodedLength.Statement .ld_H_C := fun _ => rfl
theorem Laws.EncodedLength.ld_H_D : Laws.EncodedLength.Statement .ld_H_D := fun _ => rfl
theorem Laws.EncodedLength.ld_H_E : Laws.EncodedLength.Statement .ld_H_E := fun _ => rfl
theorem Laws.EncodedLength.ld_H_H : Laws.EncodedLength.Statement .ld_H_H := fun _ => rfl
theorem Laws.EncodedLength.ld_H_L : Laws.EncodedLength.Statement .ld_H_L := fun _ => rfl
theorem Laws.EncodedLength.ld_H_mHL : Laws.EncodedLength.Statement .ld_H_mHL := fun _ => rfl
theorem Laws.EncodedLength.ld_H_A : Laws.EncodedLength.Statement .ld_H_A := fun _ => rfl
theorem Laws.EncodedLength.ld_L_B : Laws.EncodedLength.Statement .ld_L_B := fun _ => rfl
theorem Laws.EncodedLength.ld_L_C : Laws.EncodedLength.Statement .ld_L_C := fun _ => rfl
theorem Laws.EncodedLength.ld_L_D : Laws.EncodedLength.Statement .ld_L_D := fun _ => rfl
theorem Laws.EncodedLength.ld_L_E : Laws.EncodedLength.Statement .ld_L_E := fun _ => rfl
theorem Laws.EncodedLength.ld_L_H : Laws.EncodedLength.Statement .ld_L_H := fun _ => rfl
theorem Laws.EncodedLength.ld_L_L : Laws.EncodedLength.Statement .ld_L_L := fun _ => rfl
theorem Laws.EncodedLength.ld_L_mHL : Laws.EncodedLength.Statement .ld_L_mHL := fun _ => rfl
theorem Laws.EncodedLength.ld_L_A : Laws.EncodedLength.Statement .ld_L_A := fun _ => rfl
theorem Laws.EncodedLength.ld_mHL_B : Laws.EncodedLength.Statement .ld_mHL_B := fun _ => rfl
theorem Laws.EncodedLength.ld_mHL_C : Laws.EncodedLength.Statement .ld_mHL_C := fun _ => rfl
theorem Laws.EncodedLength.ld_mHL_D : Laws.EncodedLength.Statement .ld_mHL_D := fun _ => rfl
theorem Laws.EncodedLength.ld_mHL_E : Laws.EncodedLength.Statement .ld_mHL_E := fun _ => rfl
theorem Laws.EncodedLength.ld_mHL_H : Laws.EncodedLength.Statement .ld_mHL_H := fun _ => rfl
theorem Laws.EncodedLength.ld_mHL_L : Laws.EncodedLength.Statement .ld_mHL_L := fun _ => rfl
theorem Laws.EncodedLength.ld_mHL_A : Laws.EncodedLength.Statement .ld_mHL_A := fun _ => rfl
theorem Laws.EncodedLength.ld_A_B : Laws.EncodedLength.Statement .ld_A_B := fun _ => rfl
theorem Laws.EncodedLength.ld_A_C : Laws.EncodedLength.Statement .ld_A_C := fun _ => rfl
theorem Laws.EncodedLength.ld_A_D : Laws.EncodedLength.Statement .ld_A_D := fun _ => rfl
theorem Laws.EncodedLength.ld_A_E : Laws.EncodedLength.Statement .ld_A_E := fun _ => rfl
theorem Laws.EncodedLength.ld_A_H : Laws.EncodedLength.Statement .ld_A_H := fun _ => rfl
theorem Laws.EncodedLength.ld_A_L : Laws.EncodedLength.Statement .ld_A_L := fun _ => rfl
theorem Laws.EncodedLength.ld_A_mHL : Laws.EncodedLength.Statement .ld_A_mHL := fun _ => rfl
theorem Laws.EncodedLength.ld_A_A : Laws.EncodedLength.Statement .ld_A_A := fun _ => rfl
theorem Laws.EncodedLength.add_A_B : Laws.EncodedLength.Statement .add_A_B := fun _ => rfl
theorem Laws.EncodedLength.add_A_C : Laws.EncodedLength.Statement .add_A_C := fun _ => rfl
theorem Laws.EncodedLength.add_A_D : Laws.EncodedLength.Statement .add_A_D := fun _ => rfl
theorem Laws.EncodedLength.add_A_E : Laws.EncodedLength.Statement .add_A_E := fun _ => rfl
theorem Laws.EncodedLength.add_A_H : Laws.EncodedLength.Statement .add_A_H := fun _ => rfl
theorem Laws.EncodedLength.add_A_L : Laws.EncodedLength.Statement .add_A_L := fun _ => rfl
theorem Laws.EncodedLength.add_A_mHL : Laws.EncodedLength.Statement .add_A_mHL := fun _ => rfl
theorem Laws.EncodedLength.add_A_A : Laws.EncodedLength.Statement .add_A_A := fun _ => rfl
theorem Laws.EncodedLength.adc_A_B : Laws.EncodedLength.Statement .adc_A_B := fun _ => rfl
theorem Laws.EncodedLength.adc_A_C : Laws.EncodedLength.Statement .adc_A_C := fun _ => rfl
theorem Laws.EncodedLength.adc_A_D : Laws.EncodedLength.Statement .adc_A_D := fun _ => rfl
theorem Laws.EncodedLength.adc_A_E : Laws.EncodedLength.Statement .adc_A_E := fun _ => rfl
theorem Laws.EncodedLength.adc_A_H : Laws.EncodedLength.Statement .adc_A_H := fun _ => rfl
theorem Laws.EncodedLength.adc_A_L : Laws.EncodedLength.Statement .adc_A_L := fun _ => rfl
theorem Laws.EncodedLength.adc_A_mHL : Laws.EncodedLength.Statement .adc_A_mHL := fun _ => rfl
theorem Laws.EncodedLength.adc_A_A : Laws.EncodedLength.Statement .adc_A_A := fun _ => rfl
theorem Laws.EncodedLength.sub_B : Laws.EncodedLength.Statement .sub_B := fun _ => rfl
theorem Laws.EncodedLength.sub_C : Laws.EncodedLength.Statement .sub_C := fun _ => rfl
theorem Laws.EncodedLength.sub_D : Laws.EncodedLength.Statement .sub_D := fun _ => rfl
theorem Laws.EncodedLength.sub_E : Laws.EncodedLength.Statement .sub_E := fun _ => rfl
theorem Laws.EncodedLength.sub_H : Laws.EncodedLength.Statement .sub_H := fun _ => rfl
theorem Laws.EncodedLength.sub_L : Laws.EncodedLength.Statement .sub_L := fun _ => rfl
theorem Laws.EncodedLength.sub_mHL : Laws.EncodedLength.Statement .sub_mHL := fun _ => rfl
theorem Laws.EncodedLength.sub_A : Laws.EncodedLength.Statement .sub_A := fun _ => rfl
theorem Laws.EncodedLength.sbc_A_B : Laws.EncodedLength.Statement .sbc_A_B := fun _ => rfl
theorem Laws.EncodedLength.sbc_A_C : Laws.EncodedLength.Statement .sbc_A_C := fun _ => rfl
theorem Laws.EncodedLength.sbc_A_D : Laws.EncodedLength.Statement .sbc_A_D := fun _ => rfl
theorem Laws.EncodedLength.sbc_A_E : Laws.EncodedLength.Statement .sbc_A_E := fun _ => rfl
theorem Laws.EncodedLength.sbc_A_H : Laws.EncodedLength.Statement .sbc_A_H := fun _ => rfl
theorem Laws.EncodedLength.sbc_A_L : Laws.EncodedLength.Statement .sbc_A_L := fun _ => rfl
theorem Laws.EncodedLength.sbc_A_mHL : Laws.EncodedLength.Statement .sbc_A_mHL := fun _ => rfl
theorem Laws.EncodedLength.sbc_A_A : Laws.EncodedLength.Statement .sbc_A_A := fun _ => rfl
theorem Laws.EncodedLength.and_B : Laws.EncodedLength.Statement .and_B := fun _ => rfl
theorem Laws.EncodedLength.and_C : Laws.EncodedLength.Statement .and_C := fun _ => rfl
theorem Laws.EncodedLength.and_D : Laws.EncodedLength.Statement .and_D := fun _ => rfl
theorem Laws.EncodedLength.and_E : Laws.EncodedLength.Statement .and_E := fun _ => rfl
theorem Laws.EncodedLength.and_H : Laws.EncodedLength.Statement .and_H := fun _ => rfl
theorem Laws.EncodedLength.and_L : Laws.EncodedLength.Statement .and_L := fun _ => rfl
theorem Laws.EncodedLength.and_mHL : Laws.EncodedLength.Statement .and_mHL := fun _ => rfl
theorem Laws.EncodedLength.and_A : Laws.EncodedLength.Statement .and_A := fun _ => rfl
theorem Laws.EncodedLength.xor_B : Laws.EncodedLength.Statement .xor_B := fun _ => rfl
theorem Laws.EncodedLength.xor_C : Laws.EncodedLength.Statement .xor_C := fun _ => rfl
theorem Laws.EncodedLength.xor_D : Laws.EncodedLength.Statement .xor_D := fun _ => rfl
theorem Laws.EncodedLength.xor_E : Laws.EncodedLength.Statement .xor_E := fun _ => rfl
theorem Laws.EncodedLength.xor_H : Laws.EncodedLength.Statement .xor_H := fun _ => rfl
theorem Laws.EncodedLength.xor_L : Laws.EncodedLength.Statement .xor_L := fun _ => rfl
theorem Laws.EncodedLength.xor_mHL : Laws.EncodedLength.Statement .xor_mHL := fun _ => rfl
theorem Laws.EncodedLength.xor_A : Laws.EncodedLength.Statement .xor_A := fun _ => rfl
theorem Laws.EncodedLength.or_B : Laws.EncodedLength.Statement .or_B := fun _ => rfl
theorem Laws.EncodedLength.or_C : Laws.EncodedLength.Statement .or_C := fun _ => rfl
theorem Laws.EncodedLength.or_D : Laws.EncodedLength.Statement .or_D := fun _ => rfl
theorem Laws.EncodedLength.or_E : Laws.EncodedLength.Statement .or_E := fun _ => rfl
theorem Laws.EncodedLength.or_H : Laws.EncodedLength.Statement .or_H := fun _ => rfl
theorem Laws.EncodedLength.or_L : Laws.EncodedLength.Statement .or_L := fun _ => rfl
theorem Laws.EncodedLength.or_mHL : Laws.EncodedLength.Statement .or_mHL := fun _ => rfl
theorem Laws.EncodedLength.or_A : Laws.EncodedLength.Statement .or_A := fun _ => rfl
theorem Laws.EncodedLength.cp_B : Laws.EncodedLength.Statement .cp_B := fun _ => rfl
theorem Laws.EncodedLength.cp_C : Laws.EncodedLength.Statement .cp_C := fun _ => rfl
theorem Laws.EncodedLength.cp_D : Laws.EncodedLength.Statement .cp_D := fun _ => rfl
theorem Laws.EncodedLength.cp_E : Laws.EncodedLength.Statement .cp_E := fun _ => rfl
theorem Laws.EncodedLength.cp_H : Laws.EncodedLength.Statement .cp_H := fun _ => rfl
theorem Laws.EncodedLength.cp_L : Laws.EncodedLength.Statement .cp_L := fun _ => rfl
theorem Laws.EncodedLength.cp_mHL : Laws.EncodedLength.Statement .cp_mHL := fun _ => rfl
theorem Laws.EncodedLength.cp_A : Laws.EncodedLength.Statement .cp_A := fun _ => rfl
theorem Laws.EncodedLength.ret_NZ : Laws.EncodedLength.Statement .ret_NZ := fun _ => rfl
theorem Laws.EncodedLength.pop_BC : Laws.EncodedLength.Statement .pop_BC := fun _ => rfl
theorem Laws.EncodedLength.push_BC : Laws.EncodedLength.Statement .push_BC := fun _ => rfl
theorem Laws.EncodedLength.rst_00H : Laws.EncodedLength.Statement .rst_00H := fun _ => rfl
theorem Laws.EncodedLength.ret_Z : Laws.EncodedLength.Statement .ret_Z := fun _ => rfl
theorem Laws.EncodedLength.ret : Laws.EncodedLength.Statement .ret := fun _ => rfl
theorem Laws.EncodedLength.rst_08H : Laws.EncodedLength.Statement .rst_08H := fun _ => rfl
theorem Laws.EncodedLength.ret_NC : Laws.EncodedLength.Statement .ret_NC := fun _ => rfl
theorem Laws.EncodedLength.pop_DE : Laws.EncodedLength.Statement .pop_DE := fun _ => rfl
theorem Laws.EncodedLength.push_DE : Laws.EncodedLength.Statement .push_DE := fun _ => rfl
theorem Laws.EncodedLength.rst_10H : Laws.EncodedLength.Statement .rst_10H := fun _ => rfl
theorem Laws.EncodedLength.ret_C : Laws.EncodedLength.Statement .ret_C := fun _ => rfl
theorem Laws.EncodedLength.exx : Laws.EncodedLength.Statement .exx := fun _ => rfl
theorem Laws.EncodedLength.rst_18H : Laws.EncodedLength.Statement .rst_18H := fun _ => rfl
theorem Laws.EncodedLength.ret_PO : Laws.EncodedLength.Statement .ret_PO := fun _ => rfl
theorem Laws.EncodedLength.pop_HL : Laws.EncodedLength.Statement .pop_HL := fun _ => rfl
theorem Laws.EncodedLength.ex_mSP_HL : Laws.EncodedLength.Statement .ex_mSP_HL := fun _ => rfl
theorem Laws.EncodedLength.push_HL : Laws.EncodedLength.Statement .push_HL := fun _ => rfl
theorem Laws.EncodedLength.rst_20H : Laws.EncodedLength.Statement .rst_20H := fun _ => rfl
theorem Laws.EncodedLength.ret_PE : Laws.EncodedLength.Statement .ret_PE := fun _ => rfl
theorem Laws.EncodedLength.jp_HL : Laws.EncodedLength.Statement .jp_HL := fun _ => rfl
theorem Laws.EncodedLength.ex_DE_HL : Laws.EncodedLength.Statement .ex_DE_HL := fun _ => rfl
theorem Laws.EncodedLength.rst_28H : Laws.EncodedLength.Statement .rst_28H := fun _ => rfl
theorem Laws.EncodedLength.ret_P : Laws.EncodedLength.Statement .ret_P := fun _ => rfl
theorem Laws.EncodedLength.pop_AF : Laws.EncodedLength.Statement .pop_AF := fun _ => rfl
theorem Laws.EncodedLength.di : Laws.EncodedLength.Statement .di := fun _ => rfl
theorem Laws.EncodedLength.push_AF : Laws.EncodedLength.Statement .push_AF := fun _ => rfl
theorem Laws.EncodedLength.rst_30H : Laws.EncodedLength.Statement .rst_30H := fun _ => rfl
theorem Laws.EncodedLength.ret_M : Laws.EncodedLength.Statement .ret_M := fun _ => rfl
theorem Laws.EncodedLength.ld_SP_HL : Laws.EncodedLength.Statement .ld_SP_HL := fun _ => rfl
theorem Laws.EncodedLength.ei : Laws.EncodedLength.Statement .ei := fun _ => rfl
theorem Laws.EncodedLength.rst_38H : Laws.EncodedLength.Statement .rst_38H := fun _ => rfl

end Sys2Proof
end

