-- ==== Sys2Proof/Tests/Slice0.lean ====
section
/-! SUPPORT. The model's own tests: the smoke test of WellFormed, every constructor's decoding from a byte written out bit by bit from
30_encoding.md (R100 to R106), single steps with the values of 95_test_vectors.md, and for each obligation with hypotheses a
state and operands that meet them all. -/

namespace Sys2Proof.Tests

open Sys2Proof.Machine

/-! ## Helpers -/

/-- The state at creation with PC, AF and memory given. -/
def start (pc af : Word) (m : Memory) : State := { State.reset with pc := pc, af := af, mem := m }

/-- The state of a next outcome. -/
def nextOf : Result → Option State
  | .next t => some t
  | .fault _ => none
  | .refused _ => none

/-- AF after a meaning, started with A and F given. -/
def afAfter (i : Instr) (a f : Octet) : Option Word := (nextOf (exec i (start 0x0100 (mkWord a f) []))).map (fun t => t.af)

/-! ## WellFormed: the one check, with an ill-formed term that it refuses -/

theorem test_wellFormed_refuses_the_octet_of_NOP : wellFormed (.illegal 0x00) = false := by decide
theorem test_wellFormed_refuses_the_octet_of_CALL : wellFormed (.illegal 0xCD) = false := by decide
theorem test_wellFormed_accepts_the_absent_octet : wellFormed (.illegal 0x76) = true := by decide

/-! ## Decoding, by the lines of R106 -/

/-- `01 rrr sss`, R160, R162, R163 (110 as both is no LD). -/
theorem test_decode_ld_B_r :
    decode [0b01000000] = .ok (.ld_B_B, []) ∧
    decode [0b01000001] = .ok (.ld_B_C, []) ∧
    decode [0b01000010] = .ok (.ld_B_D, []) ∧
    decode [0b01000011] = .ok (.ld_B_E, []) ∧
    decode [0b01000100] = .ok (.ld_B_H, []) ∧
    decode [0b01000101] = .ok (.ld_B_L, []) ∧
    decode [0b01000110] = .ok (.ld_B_mHL, []) ∧
    decode [0b01000111] = .ok (.ld_B_A, []) :=
  ⟨rfl, rfl, rfl, rfl, rfl, rfl, rfl, rfl⟩

/-- `01 rrr sss`, R160, R162, R163 (110 as both is no LD). -/
theorem test_decode_ld_C_r :
    decode [0b01001000] = .ok (.ld_C_B, []) ∧
    decode [0b01001001] = .ok (.ld_C_C, []) ∧
    decode [0b01001010] = .ok (.ld_C_D, []) ∧
    decode [0b01001011] = .ok (.ld_C_E, []) ∧
    decode [0b01001100] = .ok (.ld_C_H, []) ∧
    decode [0b01001101] = .ok (.ld_C_L, []) ∧
    decode [0b01001110] = .ok (.ld_C_mHL, []) ∧
    decode [0b01001111] = .ok (.ld_C_A, []) :=
  ⟨rfl, rfl, rfl, rfl, rfl, rfl, rfl, rfl⟩

/-- `01 rrr sss`, R160, R162, R163 (110 as both is no LD). -/
theorem test_decode_ld_D_r :
    decode [0b01010000] = .ok (.ld_D_B, []) ∧
    decode [0b01010001] = .ok (.ld_D_C, []) ∧
    decode [0b01010010] = .ok (.ld_D_D, []) ∧
    decode [0b01010011] = .ok (.ld_D_E, []) ∧
    decode [0b01010100] = .ok (.ld_D_H, []) ∧
    decode [0b01010101] = .ok (.ld_D_L, []) ∧
    decode [0b01010110] = .ok (.ld_D_mHL, []) ∧
    decode [0b01010111] = .ok (.ld_D_A, []) :=
  ⟨rfl, rfl, rfl, rfl, rfl, rfl, rfl, rfl⟩

/-- `01 rrr sss`, R160, R162, R163 (110 as both is no LD). -/
theorem test_decode_ld_E_r :
    decode [0b01011000] = .ok (.ld_E_B, []) ∧
    decode [0b01011001] = .ok (.ld_E_C, []) ∧
    decode [0b01011010] = .ok (.ld_E_D, []) ∧
    decode [0b01011011] = .ok (.ld_E_E, []) ∧
    decode [0b01011100] = .ok (.ld_E_H, []) ∧
    decode [0b01011101] = .ok (.ld_E_L, []) ∧
    decode [0b01011110] = .ok (.ld_E_mHL, []) ∧
    decode [0b01011111] = .ok (.ld_E_A, []) :=
  ⟨rfl, rfl, rfl, rfl, rfl, rfl, rfl, rfl⟩

/-- `01 rrr sss`, R160, R162, R163 (110 as both is no LD). -/
theorem test_decode_ld_H_r :
    decode [0b01100000] = .ok (.ld_H_B, []) ∧
    decode [0b01100001] = .ok (.ld_H_C, []) ∧
    decode [0b01100010] = .ok (.ld_H_D, []) ∧
    decode [0b01100011] = .ok (.ld_H_E, []) ∧
    decode [0b01100100] = .ok (.ld_H_H, []) ∧
    decode [0b01100101] = .ok (.ld_H_L, []) ∧
    decode [0b01100110] = .ok (.ld_H_mHL, []) ∧
    decode [0b01100111] = .ok (.ld_H_A, []) :=
  ⟨rfl, rfl, rfl, rfl, rfl, rfl, rfl, rfl⟩

/-- `01 rrr sss`, R160, R162, R163 (110 as both is no LD). -/
theorem test_decode_ld_L_r :
    decode [0b01101000] = .ok (.ld_L_B, []) ∧
    decode [0b01101001] = .ok (.ld_L_C, []) ∧
    decode [0b01101010] = .ok (.ld_L_D, []) ∧
    decode [0b01101011] = .ok (.ld_L_E, []) ∧
    decode [0b01101100] = .ok (.ld_L_H, []) ∧
    decode [0b01101101] = .ok (.ld_L_L, []) ∧
    decode [0b01101110] = .ok (.ld_L_mHL, []) ∧
    decode [0b01101111] = .ok (.ld_L_A, []) :=
  ⟨rfl, rfl, rfl, rfl, rfl, rfl, rfl, rfl⟩

/-- `01 rrr sss`, R160, R162, R163 (110 as both is no LD). -/
theorem test_decode_ld_mHL_r :
    decode [0b01110000] = .ok (.ld_mHL_B, []) ∧
    decode [0b01110001] = .ok (.ld_mHL_C, []) ∧
    decode [0b01110010] = .ok (.ld_mHL_D, []) ∧
    decode [0b01110011] = .ok (.ld_mHL_E, []) ∧
    decode [0b01110100] = .ok (.ld_mHL_H, []) ∧
    decode [0b01110101] = .ok (.ld_mHL_L, []) ∧
    decode [0b01110111] = .ok (.ld_mHL_A, []) :=
  ⟨rfl, rfl, rfl, rfl, rfl, rfl, rfl⟩

/-- `01 rrr sss`, R160, R162, R163 (110 as both is no LD). -/
theorem test_decode_ld_A_r :
    decode [0b01111000] = .ok (.ld_A_B, []) ∧
    decode [0b01111001] = .ok (.ld_A_C, []) ∧
    decode [0b01111010] = .ok (.ld_A_D, []) ∧
    decode [0b01111011] = .ok (.ld_A_E, []) ∧
    decode [0b01111100] = .ok (.ld_A_H, []) ∧
    decode [0b01111101] = .ok (.ld_A_L, []) ∧
    decode [0b01111110] = .ok (.ld_A_mHL, []) ∧
    decode [0b01111111] = .ok (.ld_A_A, []) :=
  ⟨rfl, rfl, rfl, rfl, rfl, rfl, rfl, rfl⟩

/-- `00 rrr 110` n, R161, R164. -/
theorem test_decode_ld_r_n :
    decode [0b00000110, 0xA5] = .ok (.ld_B_n 0xA5, []) ∧
    decode [0b00001110, 0xA5] = .ok (.ld_C_n 0xA5, []) ∧
    decode [0b00010110, 0xA5] = .ok (.ld_D_n 0xA5, []) ∧
    decode [0b00011110, 0xA5] = .ok (.ld_E_n 0xA5, []) ∧
    decode [0b00100110, 0xA5] = .ok (.ld_H_n 0xA5, []) ∧
    decode [0b00101110, 0xA5] = .ok (.ld_L_n 0xA5, []) ∧
    decode [0b00110110, 0xA5] = .ok (.ld_mHL_n 0xA5, []) ∧
    decode [0b00111110, 0xA5] = .ok (.ld_A_n 0xA5, []) :=
  ⟨rfl, rfl, rfl, rfl, rfl, rfl, rfl, rfl⟩

/-- `00 0p0 010` and `00 0p1 010`, R165 to R170, with the operand octets low first (R96). -/
theorem test_decode_ld_indirect :
    decode [0b00000010] = .ok (.ld_mBC_A, []) ∧
    decode [0b00010010] = .ok (.ld_mDE_A, []) ∧
    decode [0b00001010] = .ok (.ld_A_mBC, []) ∧
    decode [0b00011010] = .ok (.ld_A_mDE, []) ∧
    decode [0b00110010, 0x34, 0x12] = .ok (.ld_mNN_A 0x1234, []) ∧
    decode [0b00111010, 0x34, 0x12] = .ok (.ld_A_mNN 0x1234, []) ∧
    decode [0b00100010, 0x34, 0x12] = .ok (.ld_mNN_HL 0x1234, []) ∧
    decode [0b00101010, 0x34, 0x12] = .ok (.ld_HL_mNN 0x1234, []) :=
  ⟨rfl, rfl, rfl, rfl, rfl, rfl, rfl, rfl⟩

/-- `00 dd0 001` nn, R171; `11 111 001`, R174. -/
theorem test_decode_ld_dd_nn :
    decode [0b00000001, 0x34, 0x12] = .ok (.ld_BC_nn 0x1234, []) ∧
    decode [0b00010001, 0x34, 0x12] = .ok (.ld_DE_nn 0x1234, []) ∧
    decode [0b00100001, 0x34, 0x12] = .ok (.ld_HL_nn 0x1234, []) ∧
    decode [0b00110001, 0x34, 0x12] = .ok (.ld_SP_nn 0x1234, []) ∧
    decode [0b11111001] = .ok (.ld_SP_HL, []) :=
  ⟨rfl, rfl, rfl, rfl, rfl⟩

/-- `11 qq0 101` and `11 qq0 001`, R175, R176. -/
theorem test_decode_push_pop :
    decode [0b11000101] = .ok (.push_BC, []) ∧
    decode [0b11010101] = .ok (.push_DE, []) ∧
    decode [0b11100101] = .ok (.push_HL, []) ∧
    decode [0b11110101] = .ok (.push_AF, []) ∧
    decode [0b11000001] = .ok (.pop_BC, []) ∧
    decode [0b11010001] = .ok (.pop_DE, []) ∧
    decode [0b11100001] = .ok (.pop_HL, []) ∧
    decode [0b11110001] = .ok (.pop_AF, []) :=
  ⟨rfl, rfl, rfl, rfl, rfl, rfl, rfl, rfl⟩

/-- R177 to R180. -/
theorem test_decode_exchanges :
    decode [0b11101011] = .ok (.ex_DE_HL, []) ∧
    decode [0b00001000] = .ok (.ex_AF_AFalt, []) ∧
    decode [0b11011001] = .ok (.exx, []) ∧
    decode [0b11100011] = .ok (.ex_mSP_HL, []) :=
  ⟨rfl, rfl, rfl, rfl⟩

/-- `10 000 sss` and `11 000 110` n, R104, R208. -/
theorem test_decode_add_A :
    decode [0b10000000] = .ok (.add_A_B, []) ∧
    decode [0b10000001] = .ok (.add_A_C, []) ∧
    decode [0b10000010] = .ok (.add_A_D, []) ∧
    decode [0b10000011] = .ok (.add_A_E, []) ∧
    decode [0b10000100] = .ok (.add_A_H, []) ∧
    decode [0b10000101] = .ok (.add_A_L, []) ∧
    decode [0b10000110] = .ok (.add_A_mHL, []) ∧
    decode [0b10000111] = .ok (.add_A_A, []) ∧
    decode [0b11000110, 0x01] = .ok (.add_A_n 0x01, []) :=
  ⟨rfl, rfl, rfl, rfl, rfl, rfl, rfl, rfl, rfl⟩

/-- `10 001 sss` and `11 001 110` n, R104, R208. -/
theorem test_decode_adc_A :
    decode [0b10001000] = .ok (.adc_A_B, []) ∧
    decode [0b10001001] = .ok (.adc_A_C, []) ∧
    decode [0b10001010] = .ok (.adc_A_D, []) ∧
    decode [0b10001011] = .ok (.adc_A_E, []) ∧
    decode [0b10001100] = .ok (.adc_A_H, []) ∧
    decode [0b10001101] = .ok (.adc_A_L, []) ∧
    decode [0b10001110] = .ok (.adc_A_mHL, []) ∧
    decode [0b10001111] = .ok (.adc_A_A, []) ∧
    decode [0b11001110, 0x01] = .ok (.adc_A_n 0x01, []) :=
  ⟨rfl, rfl, rfl, rfl, rfl, rfl, rfl, rfl, rfl⟩

/-- `10 010 sss` and `11 010 110` n, R104, R208. -/
theorem test_decode_sub :
    decode [0b10010000] = .ok (.sub_B, []) ∧
    decode [0b10010001] = .ok (.sub_C, []) ∧
    decode [0b10010010] = .ok (.sub_D, []) ∧
    decode [0b10010011] = .ok (.sub_E, []) ∧
    decode [0b10010100] = .ok (.sub_H, []) ∧
    decode [0b10010101] = .ok (.sub_L, []) ∧
    decode [0b10010110] = .ok (.sub_mHL, []) ∧
    decode [0b10010111] = .ok (.sub_A, []) ∧
    decode [0b11010110, 0x01] = .ok (.sub_n 0x01, []) :=
  ⟨rfl, rfl, rfl, rfl, rfl, rfl, rfl, rfl, rfl⟩

/-- `10 011 sss` and `11 011 110` n, R104, R208. -/
theorem test_decode_sbc_A :
    decode [0b10011000] = .ok (.sbc_A_B, []) ∧
    decode [0b10011001] = .ok (.sbc_A_C, []) ∧
    decode [0b10011010] = .ok (.sbc_A_D, []) ∧
    decode [0b10011011] = .ok (.sbc_A_E, []) ∧
    decode [0b10011100] = .ok (.sbc_A_H, []) ∧
    decode [0b10011101] = .ok (.sbc_A_L, []) ∧
    decode [0b10011110] = .ok (.sbc_A_mHL, []) ∧
    decode [0b10011111] = .ok (.sbc_A_A, []) ∧
    decode [0b11011110, 0x01] = .ok (.sbc_A_n 0x01, []) :=
  ⟨rfl, rfl, rfl, rfl, rfl, rfl, rfl, rfl, rfl⟩

/-- `10 100 sss` and `11 100 110` n, R104, R208. -/
theorem test_decode_and :
    decode [0b10100000] = .ok (.and_B, []) ∧
    decode [0b10100001] = .ok (.and_C, []) ∧
    decode [0b10100010] = .ok (.and_D, []) ∧
    decode [0b10100011] = .ok (.and_E, []) ∧
    decode [0b10100100] = .ok (.and_H, []) ∧
    decode [0b10100101] = .ok (.and_L, []) ∧
    decode [0b10100110] = .ok (.and_mHL, []) ∧
    decode [0b10100111] = .ok (.and_A, []) ∧
    decode [0b11100110, 0x01] = .ok (.and_n 0x01, []) :=
  ⟨rfl, rfl, rfl, rfl, rfl, rfl, rfl, rfl, rfl⟩

/-- `10 101 sss` and `11 101 110` n, R104, R208. -/
theorem test_decode_xor :
    decode [0b10101000] = .ok (.xor_B, []) ∧
    decode [0b10101001] = .ok (.xor_C, []) ∧
    decode [0b10101010] = .ok (.xor_D, []) ∧
    decode [0b10101011] = .ok (.xor_E, []) ∧
    decode [0b10101100] = .ok (.xor_H, []) ∧
    decode [0b10101101] = .ok (.xor_L, []) ∧
    decode [0b10101110] = .ok (.xor_mHL, []) ∧
    decode [0b10101111] = .ok (.xor_A, []) ∧
    decode [0b11101110, 0x01] = .ok (.xor_n 0x01, []) :=
  ⟨rfl, rfl, rfl, rfl, rfl, rfl, rfl, rfl, rfl⟩

/-- `10 110 sss` and `11 110 110` n, R104, R208. -/
theorem test_decode_or :
    decode [0b10110000] = .ok (.or_B, []) ∧
    decode [0b10110001] = .ok (.or_C, []) ∧
    decode [0b10110010] = .ok (.or_D, []) ∧
    decode [0b10110011] = .ok (.or_E, []) ∧
    decode [0b10110100] = .ok (.or_H, []) ∧
    decode [0b10110101] = .ok (.or_L, []) ∧
    decode [0b10110110] = .ok (.or_mHL, []) ∧
    decode [0b10110111] = .ok (.or_A, []) ∧
    decode [0b11110110, 0x01] = .ok (.or_n 0x01, []) :=
  ⟨rfl, rfl, rfl, rfl, rfl, rfl, rfl, rfl, rfl⟩

/-- `10 111 sss` and `11 111 110` n, R104, R208. -/
theorem test_decode_cp :
    decode [0b10111000] = .ok (.cp_B, []) ∧
    decode [0b10111001] = .ok (.cp_C, []) ∧
    decode [0b10111010] = .ok (.cp_D, []) ∧
    decode [0b10111011] = .ok (.cp_E, []) ∧
    decode [0b10111100] = .ok (.cp_H, []) ∧
    decode [0b10111101] = .ok (.cp_L, []) ∧
    decode [0b10111110] = .ok (.cp_mHL, []) ∧
    decode [0b10111111] = .ok (.cp_A, []) ∧
    decode [0b11111110, 0x01] = .ok (.cp_n 0x01, []) :=
  ⟨rfl, rfl, rfl, rfl, rfl, rfl, rfl, rfl, rfl⟩

/-- `00 rrr 100`, R210, R211; `00 ss0 011`, R241. -/
theorem test_decode_inc :
    decode [0b00000100] = .ok (.inc_B, []) ∧
    decode [0b00001100] = .ok (.inc_C, []) ∧
    decode [0b00010100] = .ok (.inc_D, []) ∧
    decode [0b00011100] = .ok (.inc_E, []) ∧
    decode [0b00100100] = .ok (.inc_H, []) ∧
    decode [0b00101100] = .ok (.inc_L, []) ∧
    decode [0b00110100] = .ok (.inc_mHL, []) ∧
    decode [0b00111100] = .ok (.inc_A, []) ∧
    decode [0b00000011] = .ok (.inc_BC, []) ∧
    decode [0b00010011] = .ok (.inc_DE, []) ∧
    decode [0b00100011] = .ok (.inc_HL, []) ∧
    decode [0b00110011] = .ok (.inc_SP, []) :=
  ⟨rfl, rfl, rfl, rfl, rfl, rfl, rfl, rfl, rfl, rfl, rfl, rfl⟩

/-- `00 rrr 101`, R212, R213; `00 ss1 011`, R242. -/
theorem test_decode_dec :
    decode [0b00000101] = .ok (.dec_B, []) ∧
    decode [0b00001101] = .ok (.dec_C, []) ∧
    decode [0b00010101] = .ok (.dec_D, []) ∧
    decode [0b00011101] = .ok (.dec_E, []) ∧
    decode [0b00100101] = .ok (.dec_H, []) ∧
    decode [0b00101101] = .ok (.dec_L, []) ∧
    decode [0b00110101] = .ok (.dec_mHL, []) ∧
    decode [0b00111101] = .ok (.dec_A, []) ∧
    decode [0b00001011] = .ok (.dec_BC, []) ∧
    decode [0b00011011] = .ok (.dec_DE, []) ∧
    decode [0b00101011] = .ok (.dec_HL, []) ∧
    decode [0b00111011] = .ok (.dec_SP, []) :=
  ⟨rfl, rfl, rfl, rfl, rfl, rfl, rfl, rfl, rfl, rfl, rfl, rfl⟩

/-- `00 ss1 001`, R240. -/
theorem test_decode_add_HL :
    decode [0b00001001] = .ok (.add_HL_BC, []) ∧
    decode [0b00011001] = .ok (.add_HL_DE, []) ∧
    decode [0b00101001] = .ok (.add_HL_HL, []) ∧
    decode [0b00111001] = .ok (.add_HL_SP, []) :=
  ⟨rfl, rfl, rfl, rfl⟩

/-- `00 0yy 111` and `00 1yy 111`, R214 to R221. -/
theorem test_decode_accumulator :
    decode [0b00000111] = .ok (.rlca, []) ∧
    decode [0b00001111] = .ok (.rrca, []) ∧
    decode [0b00010111] = .ok (.rla, []) ∧
    decode [0b00011111] = .ok (.rra, []) ∧
    decode [0b00100111] = .ok (.daa, []) ∧
    decode [0b00101111] = .ok (.cpl, []) ∧
    decode [0b00110111] = .ok (.scf, []) ∧
    decode [0b00111111] = .ok (.ccf, []) :=
  ⟨rfl, rfl, rfl, rfl, rfl, rfl, rfl, rfl⟩

/-- `11 ccc 010` nn, `11 000 011` nn, `11 101 001`, R254 to R256. -/
theorem test_decode_jp :
    decode [0b11000010, 0x34, 0x12] = .ok (.jp_NZ_nn 0x1234, []) ∧
    decode [0b11001010, 0x34, 0x12] = .ok (.jp_Z_nn 0x1234, []) ∧
    decode [0b11010010, 0x34, 0x12] = .ok (.jp_NC_nn 0x1234, []) ∧
    decode [0b11011010, 0x34, 0x12] = .ok (.jp_C_nn 0x1234, []) ∧
    decode [0b11100010, 0x34, 0x12] = .ok (.jp_PO_nn 0x1234, []) ∧
    decode [0b11101010, 0x34, 0x12] = .ok (.jp_PE_nn 0x1234, []) ∧
    decode [0b11110010, 0x34, 0x12] = .ok (.jp_P_nn 0x1234, []) ∧
    decode [0b11111010, 0x34, 0x12] = .ok (.jp_M_nn 0x1234, []) ∧
    decode [0b11000011, 0x34, 0x12] = .ok (.jp_nn 0x1234, []) ∧
    decode [0b11101001] = .ok (.jp_HL, []) :=
  ⟨rfl, rfl, rfl, rfl, rfl, rfl, rfl, rfl, rfl, rfl⟩

/-- `00 1cc 000` e, `00 011 000` e, `00 010 000` e, R257 to R259. -/
theorem test_decode_jr :
    decode [0b00100000, 0xFC] = .ok (.jr_NZ_e 0xFC, []) ∧
    decode [0b00101000, 0xFC] = .ok (.jr_Z_e 0xFC, []) ∧
    decode [0b00110000, 0xFC] = .ok (.jr_NC_e 0xFC, []) ∧
    decode [0b00111000, 0xFC] = .ok (.jr_C_e 0xFC, []) ∧
    decode [0b00011000, 0xFC] = .ok (.jr_e 0xFC, []) ∧
    decode [0b00010000, 0xFC] = .ok (.djnz_e 0xFC, []) :=
  ⟨rfl, rfl, rfl, rfl, rfl, rfl⟩

/-- `11 ccc 100` nn, `11 001 101` nn, R260, R261. -/
theorem test_decode_call :
    decode [0b11000100, 0x34, 0x12] = .ok (.call_NZ_nn 0x1234, []) ∧
    decode [0b11001100, 0x34, 0x12] = .ok (.call_Z_nn 0x1234, []) ∧
    decode [0b11010100, 0x34, 0x12] = .ok (.call_NC_nn 0x1234, []) ∧
    decode [0b11011100, 0x34, 0x12] = .ok (.call_C_nn 0x1234, []) ∧
    decode [0b11100100, 0x34, 0x12] = .ok (.call_PO_nn 0x1234, []) ∧
    decode [0b11101100, 0x34, 0x12] = .ok (.call_PE_nn 0x1234, []) ∧
    decode [0b11110100, 0x34, 0x12] = .ok (.call_P_nn 0x1234, []) ∧
    decode [0b11111100, 0x34, 0x12] = .ok (.call_M_nn 0x1234, []) ∧
    decode [0b11001101, 0x34, 0x12] = .ok (.call_nn 0x1234, []) :=
  ⟨rfl, rfl, rfl, rfl, rfl, rfl, rfl, rfl, rfl⟩

/-- `11 ccc 000`, `11 001 001`, `11 ttt 111`, R262 to R264. -/
theorem test_decode_ret_rst :
    decode [0b11000000] = .ok (.ret_NZ, []) ∧
    decode [0b11001000] = .ok (.ret_Z, []) ∧
    decode [0b11010000] = .ok (.ret_NC, []) ∧
    decode [0b11011000] = .ok (.ret_C, []) ∧
    decode [0b11100000] = .ok (.ret_PO, []) ∧
    decode [0b11101000] = .ok (.ret_PE, []) ∧
    decode [0b11110000] = .ok (.ret_P, []) ∧
    decode [0b11111000] = .ok (.ret_M, []) ∧
    decode [0b11001001] = .ok (.ret, []) ∧
    decode [0b11000111] = .ok (.rst_00H, []) ∧
    decode [0b11001111] = .ok (.rst_08H, []) ∧
    decode [0b11010111] = .ok (.rst_10H, []) ∧
    decode [0b11011111] = .ok (.rst_18H, []) ∧
    decode [0b11100111] = .ok (.rst_20H, []) ∧
    decode [0b11101111] = .ok (.rst_28H, []) ∧
    decode [0b11110111] = .ok (.rst_30H, []) ∧
    decode [0b11111111] = .ok (.rst_38H, []) :=
  ⟨rfl, rfl, rfl, rfl, rfl, rfl, rfl, rfl, rfl, rfl, rfl, rfl, rfl, rfl, rfl, rfl, rfl⟩

/-- R280 to R282; the seven absent octets, R107, R283. -/
theorem test_decode_system :
    decode [0b00000000] = .ok (.nop, []) ∧
    decode [0b11111011] = .ok (.ei, []) ∧
    decode [0b11110011] = .ok (.di, []) ∧
    decode [0x76] = .ok (.illegal 0x76, []) ∧
    decode [0xCB] = .ok (.illegal 0xCB, []) ∧
    decode [0xD3] = .ok (.illegal 0xD3, []) ∧
    decode [0xDB] = .ok (.illegal 0xDB, []) ∧
    decode [0xDD] = .ok (.illegal 0xDD, []) ∧
    decode [0xED] = .ok (.illegal 0xED, []) ∧
    decode [0xFD] = .ok (.illegal 0xFD, []) :=
  ⟨rfl, rfl, rfl, rfl, rfl, rfl, rfl, rfl, rfl, rfl⟩

theorem test_decode_rejects_no_bytes : decode [] = .error .noOpcode := rfl
theorem test_decode_rejects_missing_operand : decode [0xC3, 0x34] = .error (.operandMissing 0xC3) := rfl
theorem test_decode_hands_back_the_rest : decode [0x06, 0x2A, 0x76] = .ok (.ld_B_n 0x2A, [0x76]) := rfl
theorem test_table_word_low_octet_first : decodeTableWord 24 0x1234CD = some (.call_nn 0x1234) := rfl
theorem test_encode_jp : encode (.jp_nn 0x1234) = [0xC3, 0x34, 0x12] := rfl
theorem test_encode_cp_n : encode (.cp_n 0x7F) = [0b11111110, 0x7F] := rfl

/-! ## The accumulator operations: the table of 95_test_vectors.md section 2.1, columns A, n, carry in, A after, F after -/

theorem test_add_A_n_table :
    ([(0x00, 0x00, 0x00, 0x0040), (0x0F, 0x01, 0x00, 0x1010), (0xFF, 0x01, 0x00, 0x0051), (0x7F, 0x01, 0x00, 0x8094),
      (0x80, 0x80, 0x00, 0x0045), (0x80, 0x7F, 0x00, 0xFFA8), (0x00, 0xFF, 0x01, 0xFFA8), (0x0F, 0x0F, 0x01, 0x1E18),
      (0x7F, 0x00, 0x01, 0x7F28), (0xFF, 0xFF, 0x01, 0xFEB9), (0x00, 0x7F, 0x01, 0x7F28), (0x40, 0x28, 0x00, 0x6828),
      (0xAA, 0x55, 0x00, 0xFFA8), (0x12, 0x34, 0x01, 0x4600)] : List (Octet × Octet × Octet × Word)).all
      (fun (a, n, f, r) => afAfter (.add_A_n n) a f == some r) = true := by decide

theorem test_adc_A_n_table :
    ([(0x00, 0x00, 0x00, 0x0040), (0x0F, 0x01, 0x00, 0x1010), (0xFF, 0x01, 0x00, 0x0051), (0x7F, 0x01, 0x00, 0x8094),
      (0x80, 0x80, 0x00, 0x0045), (0x80, 0x7F, 0x00, 0xFFA8), (0x00, 0xFF, 0x01, 0x0051), (0x0F, 0x0F, 0x01, 0x1F18),
      (0x7F, 0x00, 0x01, 0x8094), (0xFF, 0xFF, 0x01, 0xFFB9), (0x00, 0x7F, 0x01, 0x8094), (0x40, 0x28, 0x00, 0x6828),
      (0xAA, 0x55, 0x00, 0xFFA8), (0x12, 0x34, 0x01, 0x4700)] : List (Octet × Octet × Octet × Word)).all
      (fun (a, n, f, r) => afAfter (.adc_A_n n) a f == some r) = true := by decide

theorem test_sub_n_table :
    ([(0x00, 0x00, 0x00, 0x0042), (0x0F, 0x01, 0x00, 0x0E0A), (0xFF, 0x01, 0x00, 0xFEAA), (0x7F, 0x01, 0x00, 0x7E2A),
      (0x80, 0x80, 0x00, 0x0042), (0x80, 0x7F, 0x00, 0x0116), (0x00, 0xFF, 0x01, 0x0113), (0x0F, 0x0F, 0x01, 0x0042),
      (0x7F, 0x00, 0x01, 0x7F2A), (0xFF, 0xFF, 0x01, 0x0042), (0x00, 0x7F, 0x01, 0x8193), (0x40, 0x28, 0x00, 0x181A),
      (0xAA, 0x55, 0x00, 0x5506), (0x12, 0x34, 0x01, 0xDE9B)] : List (Octet × Octet × Octet × Word)).all
      (fun (a, n, f, r) => afAfter (.sub_n n) a f == some r) = true := by decide

theorem test_sbc_A_n_table :
    ([(0x00, 0x00, 0x00, 0x0042), (0x0F, 0x01, 0x00, 0x0E0A), (0xFF, 0x01, 0x00, 0xFEAA), (0x7F, 0x01, 0x00, 0x7E2A),
      (0x80, 0x80, 0x00, 0x0042), (0x80, 0x7F, 0x00, 0x0116), (0x00, 0xFF, 0x01, 0x0053), (0x0F, 0x0F, 0x01, 0xFFBB),
      (0x7F, 0x00, 0x01, 0x7E2A), (0xFF, 0xFF, 0x01, 0xFFBB), (0x00, 0x7F, 0x01, 0x8093), (0x40, 0x28, 0x00, 0x181A),
      (0xAA, 0x55, 0x00, 0x5506), (0x12, 0x34, 0x01, 0xDD9B)] : List (Octet × Octet × Octet × Word)).all
      (fun (a, n, f, r) => afAfter (.sbc_A_n n) a f == some r) = true := by decide

theorem test_and_n_table :
    ([(0x00, 0x00, 0x00, 0x0054), (0x0F, 0x01, 0x00, 0x0110), (0xFF, 0x01, 0x00, 0x0110), (0x7F, 0x01, 0x00, 0x0110),
      (0x80, 0x80, 0x00, 0x8090), (0x80, 0x7F, 0x00, 0x0054), (0x00, 0xFF, 0x01, 0x0054), (0x0F, 0x0F, 0x01, 0x0F1C),
      (0x7F, 0x00, 0x01, 0x0054), (0xFF, 0xFF, 0x01, 0xFFBC), (0x00, 0x7F, 0x01, 0x0054), (0x40, 0x28, 0x00, 0x0054),
      (0xAA, 0x55, 0x00, 0x0054), (0x12, 0x34, 0x01, 0x1010)] : List (Octet × Octet × Octet × Word)).all
      (fun (a, n, f, r) => afAfter (.and_n n) a f == some r) = true := by decide

theorem test_xor_n_table :
    ([(0x00, 0x00, 0x00, 0x0044), (0x0F, 0x01, 0x00, 0x0E08), (0xFF, 0x01, 0x00, 0xFEA8), (0x7F, 0x01, 0x00, 0x7E2C),
      (0x80, 0x80, 0x00, 0x0044), (0x80, 0x7F, 0x00, 0xFFAC), (0x00, 0xFF, 0x01, 0xFFAC), (0x0F, 0x0F, 0x01, 0x0044),
      (0x7F, 0x00, 0x01, 0x7F28), (0xFF, 0xFF, 0x01, 0x0044), (0x00, 0x7F, 0x01, 0x7F28), (0x40, 0x28, 0x00, 0x6828),
      (0xAA, 0x55, 0x00, 0xFFAC), (0x12, 0x34, 0x01, 0x2620)] : List (Octet × Octet × Octet × Word)).all
      (fun (a, n, f, r) => afAfter (.xor_n n) a f == some r) = true := by decide

theorem test_or_n_table :
    ([(0x00, 0x00, 0x00, 0x0044), (0x0F, 0x01, 0x00, 0x0F0C), (0xFF, 0x01, 0x00, 0xFFAC), (0x7F, 0x01, 0x00, 0x7F28),
      (0x80, 0x80, 0x00, 0x8080), (0x80, 0x7F, 0x00, 0xFFAC), (0x00, 0xFF, 0x01, 0xFFAC), (0x0F, 0x0F, 0x01, 0x0F0C),
      (0x7F, 0x00, 0x01, 0x7F28), (0xFF, 0xFF, 0x01, 0xFFAC), (0x00, 0x7F, 0x01, 0x7F28), (0x40, 0x28, 0x00, 0x6828),
      (0xAA, 0x55, 0x00, 0xFFAC), (0x12, 0x34, 0x01, 0x3624)] : List (Octet × Octet × Octet × Word)).all
      (fun (a, n, f, r) => afAfter (.or_n n) a f == some r) = true := by decide

theorem test_cp_n_table :
    ([(0x00, 0x00, 0x00, 0x0042), (0x0F, 0x01, 0x00, 0x0F02), (0xFF, 0x01, 0x00, 0xFF82), (0x7F, 0x01, 0x00, 0x7F02),
      (0x80, 0x80, 0x00, 0x8042), (0x80, 0x7F, 0x00, 0x803E), (0x00, 0xFF, 0x01, 0x003B), (0x0F, 0x0F, 0x01, 0x0F4A),
      (0x7F, 0x00, 0x01, 0x7F02), (0xFF, 0xFF, 0x01, 0xFF6A), (0x00, 0x7F, 0x01, 0x00BB), (0x40, 0x28, 0x00, 0x403A),
      (0xAA, 0x55, 0x00, 0xAA06), (0x12, 0x34, 0x01, 0x12B3)] : List (Octet × Octet × Octet × Word)).all
      (fun (a, n, f, r) => afAfter (.cp_n n) a f == some r) = true := by decide

/-! ## Section 2.3: value, F before, value and F after INC, value and F after DEC; on A -/

theorem test_inc_dec_A_table :
    ([(0x00, 0x00, 0x0100, 0xFFBA), (0x00, 0xFF, 0x0101, 0xFFBB), (0x0F, 0x00, 0x1010, 0x0E0A), (0x10, 0x01, 0x1101, 0x0F1B),
      (0x7F, 0x00, 0x8094, 0x7E2A), (0x80, 0x01, 0x8181, 0x7F3F), (0xFF, 0x00, 0x0050, 0xFEAA), (0xFF, 0x01, 0x0051, 0xFEAB),
      (0x01, 0x00, 0x0200, 0x0042), (0x27, 0xD7, 0x2829, 0x2623)] : List (Octet × Octet × Word × Word)).all
      (fun (v, f, i, d) => afAfter .inc_A v f == some i && afAfter .dec_A v f == some d) = true := by decide

/-! ## Section 2.4: A, F before, A and F after RLCA, RRCA, RLA, RRA -/

theorem test_rotate_table :
    ([(0x00, 0x00, 0x0000, 0x0000, 0x0000, 0x0000),
      (0x00, 0x01, 0x0000, 0x0000, 0x0100, 0x8000),
      (0x80, 0x00, 0x0101, 0x4000, 0x0001, 0x4000),
      (0x01, 0x00, 0x0200, 0x8001, 0x0200, 0x0001),
      (0x81, 0x01, 0x0301, 0xC001, 0x0301, 0xC001),
      (0x55, 0xC4, 0xAAEC, 0xAAED, 0xAAEC, 0x2AED),
      (0xAA, 0xFF, 0x55C5, 0x55C4, 0x55C5, 0xD5C4),
      (0x14, 0x00, 0x2828, 0x0A08, 0x2828, 0x0A08),
      (0xFF, 0x00, 0xFF29, 0xFF29, 0xFE29, 0x7F29)] : List (Octet × Octet × Word × Word × Word × Word)).all
      (fun (a, f, lc, rc, l, r) => afAfter .rlca a f == some lc && afAfter .rrca a f == some rc &&
        afAfter .rla a f == some l && afAfter .rra a f == some r) = true := by decide

/-! ## Section 2.5 -/

theorem test_daa_table :
    ([(0x00, 0x00, 0x0044), (0x0A, 0x00, 0x1010), (0x3C, 0x28, 0x4214), (0x7D, 0x28, 0x8390), (0x9A, 0x00, 0x0055),
      (0xA0, 0x00, 0x0045), (0x99, 0x00, 0x998C), (0x10, 0x10, 0x1600), (0x00, 0x01, 0x6025), (0x0F, 0x02, 0x090E),
      (0xFA, 0x13, 0x9483), (0x66, 0x12, 0x6026), (0x00, 0x13, 0x9A9F), (0x15, 0x02, 0x1502), (0xFF, 0x00, 0x6535)] : List (Octet × Octet × Word)).all
      (fun (a, f, r) => afAfter .daa a f == some r) = true := by decide

theorem test_cpl_table :
    ([(0x00, 0x00, 0xFF3A), (0xFF, 0xFF, 0x00D7), (0x28, 0x01, 0xD713), (0xD7, 0xC4, 0x28FE)] : List (Octet × Octet × Word)).all
      (fun (a, f, r) => afAfter .cpl a f == some r) = true := by decide

theorem test_scf_table :
    ([(0x00, 0x00, 0x0001), (0xFF, 0xFF, 0xFFED), (0x28, 0x01, 0x2829), (0xD7, 0xC4, 0xD7C5)] : List (Octet × Octet × Word)).all
      (fun (a, f, r) => afAfter .scf a f == some r) = true := by decide

theorem test_ccf_table :
    ([(0x00, 0x00, 0x0001), (0xFF, 0xFF, 0xFFFC), (0x28, 0x01, 0x2838), (0xD7, 0xC4, 0xD7C5)] : List (Octet × Octet × Word)).all
      (fun (a, f, r) => afAfter .ccf a f == some r) = true := by decide

/-! ## Section 2.6: HL, DE, F before, HL and F after -/

theorem test_add_HL_DE_table :
    ([(0x0000, 0x0000, 0x00, 0x0000, 0x00), (0x0FFF, 0x0001, 0x00, 0x1000, 0x10), (0xFFFF, 0x0001, 0x00, 0x0000, 0x11),
      (0x8000, 0x8000, 0xFF, 0x0000, 0xC5), (0x00FF, 0x0001, 0xFF, 0x0100, 0xC4), (0x1234, 0x4321, 0x02, 0x5555, 0x00),
      (0x2800, 0x0000, 0x00, 0x2800, 0x28), (0xF000, 0x1000, 0x44, 0x0000, 0x45), (0x0800, 0x0800, 0x00, 0x1000, 0x10)] : List (Word × Word × Octet × Word × Octet)).all
      (fun (h, d, f, r, g) =>
        (nextOf (exec .add_HL_DE { start 0 (mkWord 0 f) [] with hl := h, de := d })).map (fun t => (t.hl, t.f)) == some (r, g)) = true := by decide

/-! ## Single steps (sections 1, 2.2, 2.3, 2.6 to 2.9) -/

theorem test_nop :
    (nextOf (step (start 0x0000 0xFFFF []))).map (fun t => (t.pc, t.af, t.cycles, t.trace)) =
      some (0x0001, 0xFFFF, 4, [.read 0x0000 0x00]) := by decide

theorem test_inc_B :
    (nextOf (step (start 0x0000 0xFFFF [(0x0000, 0x04)]))).map (fun t => (t.bc, t.af, t.pc, t.cycles)) =
      some (0x0100, 0xFF01, 0x0001, 4) := by decide

theorem test_dec_C :
    (nextOf (step (start 0x0000 0xFF00 [(0x0000, 0x0D)]))).map (fun t => (t.bc, t.af, t.pc, t.cycles)) =
      some (0x00FF, 0xFFBA, 0x0001, 4) := by decide

theorem test_jp_nn :
    (nextOf (step (start 0x0000 0xFFFF [(0x0000, 0xC3), (0x0001, 0x34), (0x0002, 0x12)]))).map (fun t => (t.pc, t.cycles, t.trace)) =
      some (0x1234, 10, [.read 0x0000 0xC3, .read 0x0001 0x34, .read 0x0002 0x12]) := by decide

theorem test_add_A_mHL :
    (nextOf (step ({ start 0x0100 0x0F00 [(0x0100, 0x86), (0x8000, 0x01)] with hl := 0x8000 }))).map (fun t => (t.af, t.pc, t.cycles, t.trace)) =
      some (0x1010, 0x0101, 7, [.read 0x0100 0x86, .read 0x8000 0x01]) := by decide

theorem test_cp_mHL :
    (nextOf (step ({ start 0x0100 0x8000 [(0x0100, 0xBE), (0x8000, 0x7F)] with hl := 0x8000 }))).map (fun t => (t.af, t.cycles)) =
      some (0x803E, 7) := by decide

theorem test_adc_A_A :
    (nextOf (step (start 0x0100 0x8001 [(0x0100, 0x8F)]))).map (fun t => (t.af, t.cycles)) =
      some (0x0105, 4) := by decide

theorem test_sbc_A_A :
    (nextOf (step (start 0x0100 0x5A01 [(0x0100, 0x9F)]))).map (fun t => (t.af, t.cycles)) =
      some (0xFFBB, 4) := by decide

theorem test_xor_A :
    (nextOf (step (start 0x0100 0x5AFF [(0x0100, 0xAF)]))).map (fun t => (t.af, t.cycles)) =
      some (0x0044, 4) := by decide

theorem test_inc_mHL :
    (nextOf (step ({ start 0x0100 0x0001 [(0x0100, 0x34), (0x8000, 0x7F)] with hl := 0x8000 }))).map (fun t => (t.peek 0x8000, t.f, t.cycles, t.trace)) =
      some (0x80, 0x95, 11, [.read 0x0100 0x34, .read 0x8000 0x7F, .write 0x8000 0x80]) := by decide

theorem test_dec_mHL :
    (nextOf (step ({ start 0x0100 0x0000 [(0x0100, 0x35)] with hl := 0x8000 }))).map (fun t => (t.peek 0x8000, t.f, t.cycles)) =
      some (0xFF, 0xBA, 11) := by decide

theorem test_add_HL_HL :
    (nextOf (step ({ start 0x0100 0x0000 [(0x0100, 0x29)] with hl := 0x8421 }))).map (fun t => (t.hl, t.f, t.cycles)) =
      some (0x0842, 0x09, 11) := by decide

theorem test_add_HL_SP :
    (nextOf (step ({ start 0x0100 0x00C4 [(0x0100, 0x39)] with hl := 0x0001 }))).map (fun t => (t.hl, t.f, t.sp)) =
      some (0x0000, 0xD5, 0xFFFF) := by decide

theorem test_inc_BC_wraps :
    (nextOf (step ({ start 0x0100 0x00A5 [(0x0100, 0x03)] with bc := 0xFFFF }))).map (fun t => (t.bc, t.f, t.cycles)) =
      some (0x0000, 0xA5, 6) := by decide

theorem test_dec_SP_wraps :
    (nextOf (step ({ start 0x0100 0x005A [(0x0100, 0x3B)] with sp := 0x0000 }))).map (fun t => (t.sp, t.f, t.cycles)) =
      some (0xFFFF, 0x5A, 6) := by decide

theorem test_ld_B_C :
    (nextOf (step ({ start 0x0100 0xFFFF [(0x0100, 0x41)] with bc := 0x0012 }))).map (fun t => (t.bc, t.pc, t.cycles)) =
      some (0x1212, 0x0101, 4) := by decide

theorem test_ld_H_mHL :
    (nextOf (step ({ start 0x0100 0xFFFF [(0x0100, 0x66), (0x8000, 0x12)] with hl := 0x8000 }))).map (fun t => (t.hl, t.cycles)) =
      some (0x1200, 7) := by decide

theorem test_ld_mHL_L :
    (nextOf (step ({ start 0x0100 0xFFFF [(0x0100, 0x75)] with hl := 0x8034 }))).map (fun t => (t.peek 0x8034, t.cycles, t.trace)) =
      some (0x34, 7, [.read 0x0100 0x75, .write 0x8034 0x34]) := by decide

theorem test_ld_mHL_n :
    (nextOf (step ({ start 0x0100 0xFFFF [(0x0100, 0x36), (0x0101, 0xA5)] with hl := 0xFFFF }))).map (fun t => (t.peek 0xFFFF, t.pc, t.cycles)) =
      some (0xA5, 0x0102, 10) := by decide

theorem test_ld_A_mBC :
    (nextOf (step ({ start 0x0100 0xFFFF [(0x0100, 0x0A), (0x4000, 0x77)] with bc := 0x4000 }))).map (fun t => (t.af, t.cycles)) =
      some (0x77FF, 7) := by decide

theorem test_ld_mDE_A :
    (nextOf (step ({ start 0x0100 0x99FF [(0x0100, 0x12)] with de := 0x4001 }))).map (fun t => (t.peek 0x4001, t.cycles)) =
      some (0x99, 7) := by decide

theorem test_ld_A_mNN :
    (nextOf (step (start 0x0100 0xFFFF [(0x0100, 0x3A), (0x0101, 0xFF), (0x0102, 0xFF), (0xFFFF, 0x42)]))).map (fun t => (t.af, t.pc, t.cycles)) =
      some (0x42FF, 0x0103, 13) := by decide

theorem test_ld_mNN_A :
    (nextOf (step (start 0x0100 0x24FF [(0x0100, 0x32)]))).map (fun t => (t.peek 0x0000, t.cycles, t.trace)) =
      some (0x24, 13, [.read 0x0100 0x32, .read 0x0101 0x00, .read 0x0102 0x00, .write 0x0000 0x24]) := by decide

theorem test_ld_SP_nn :
    (nextOf (step (start 0x0100 0xFFFF [(0x0100, 0x31), (0x0102, 0x90)]))).map (fun t => (t.sp, t.pc, t.cycles)) =
      some (0x9000, 0x0103, 10) := by decide

theorem test_ld_HL_mNN_wraps :
    (nextOf (step (start 0x0100 0xFFFF [(0x0000, 0x12), (0x0100, 0x2A), (0x0101, 0xFF), (0x0102, 0xFF), (0xFFFF, 0x34)]))).map (fun t => (t.hl, t.cycles)) =
      some (0x1234, 16) := by decide

theorem test_ld_mNN_HL_wraps :
    (nextOf (step ({ start 0x0100 0xFFFF [(0x0100, 0x22), (0x0101, 0xFF), (0x0102, 0xFF)] with hl := 0xBEEF }))).map (fun t => (t.peek 0xFFFF, t.peek 0x0000, t.cycles)) =
      some (0xEF, 0xBE, 16) := by decide

theorem test_ld_SP_HL :
    (nextOf (step ({ start 0x0100 0xFFFF [(0x0100, 0xF9)] with hl := 0x1234 }))).map (fun t => (t.sp, t.cycles)) =
      some (0x1234, 6) := by decide

theorem test_push_AF_wraps :
    (nextOf (step ({ start 0x0100 0x12D7 [(0x0100, 0xF5)] with sp := 0x0001 }))).map (fun t => (t.sp, t.cycles, t.trace)) =
      some (0xFFFF, 11, [.read 0x0100 0xF5, .write 0xFFFF 0xD7, .write 0x0000 0x12]) := by decide

theorem test_pop_BC_wraps :
    (nextOf (step ({ start 0x0100 0xFFFF [(0x0000, 0xAB), (0x0100, 0xC1), (0xFFFF, 0xCD)] with sp := 0xFFFF }))).map (fun t => (t.bc, t.sp, t.cycles)) =
      some (0xABCD, 0x0001, 10) := by decide

theorem test_pop_AF_loads_all_flags :
    (nextOf (step ({ start 0x0100 0x1200 [(0x0100, 0xF1), (0x8000, 0xFF)] with sp := 0x8000 }))).map (fun t => (t.af, t.sp, t.cycles)) =
      some (0x00FF, 0x8002, 10) := by decide

theorem test_ex_DE_HL :
    (nextOf (step ({ start 0x0100 0xFFFF [(0x0100, 0xEB)] with de := 0x1111, hl := 0x2222 }))).map (fun t => (t.de, t.hl, t.cycles)) =
      some (0x2222, 0x1111, 4) := by decide

theorem test_ex_AF :
    (nextOf (step ({ start 0x0100 0x1234 [(0x0100, 0x08)] with af' := 0xABCD }))).map (fun t => (t.af, t.af', t.cycles)) =
      some (0xABCD, 0x1234, 4) := by decide

theorem test_exx :
    (nextOf (step ({ start 0x0100 0x4444 [(0x0100, 0xD9)] with bc := 0x1111, de := 0x2222, hl := 0x3333, af' := 0xDDDD, bc' := 0xAAAA, de' := 0xBBBB, hl' := 0xCCCC }))).map (fun t => (t.bc, t.de, t.hl, t.bc', t.hl', t.af, t.af')) =
      some (0xAAAA, 0xBBBB, 0xCCCC, 0x1111, 0x3333, 0x4444, 0xDDDD) := by decide

theorem test_ex_mSP_HL_wraps :
    (nextOf (step ({ start 0x0100 0xFFFF [(0x0000, 0x56), (0x0100, 0xE3), (0xFFFF, 0x78)] with hl := 0x1234 }))).map (fun t => (t.hl, t.sp, t.cycles, t.trace)) =
      some (0x5678, 0xFFFF, 19,
        [.read 0x0100 0xE3, .read 0xFFFF 0x78, .read 0x0000 0x56, .write 0xFFFF 0x34, .write 0x0000 0x12]) := by decide

/-- The condition table of section 2.8 on JP cc,9000 at 0100: the taken conditions with F = 00, then with F = FF. -/
theorem test_jp_cc_taken :
    ([.jp_NZ_nn 0x9000, .jp_NC_nn 0x9000, .jp_PO_nn 0x9000, .jp_P_nn 0x9000] : List Instr).all
      (fun i => (nextOf (exec i (start 0x0100 0x0000 []))).map (fun t => (t.pc, t.cycles)) == some (0x9000, 10) &&
        (nextOf (exec i (start 0x0100 0x00FF []))).map (fun t => (t.pc, t.cycles)) == some (0x0103, 10)) = true ∧
    ([.jp_Z_nn 0x9000, .jp_C_nn 0x9000, .jp_PE_nn 0x9000, .jp_M_nn 0x9000] : List Instr).all
      (fun i => (nextOf (exec i (start 0x0100 0x0000 []))).map (fun t => (t.pc, t.cycles)) == some (0x0103, 10) &&
        (nextOf (exec i (start 0x0100 0x00FF []))).map (fun t => (t.pc, t.cycles)) == some (0x9000, 10)) = true := by decide

/-- The same table, F with only the tested flag set: NZ, NC, PO, P not taken; Z, C, PE, M taken. -/
theorem test_jp_cc_one_flag :
    ([(.jp_NZ_nn 0x9000, 0x0040), (.jp_NC_nn 0x9000, 0x0001), (.jp_PO_nn 0x9000, 0x0004), (.jp_P_nn 0x9000, 0x0080)] :
      List (Instr × Word)).all (fun (i, f) => (nextOf (exec i (start 0x0100 f []))).map (fun t => t.pc) == some 0x0103) = true ∧
    ([(.jp_Z_nn 0x9000, 0x0040), (.jp_C_nn 0x9000, 0x0001), (.jp_PE_nn 0x9000, 0x0004), (.jp_M_nn 0x9000, 0x0080)] :
      List (Instr × Word)).all (fun (i, f) => (nextOf (exec i (start 0x0100 f []))).map (fun t => t.pc) == some 0x9000) = true := by
  decide

theorem test_jp_HL_reads_no_memory :
    (nextOf (step ({ start 0x0100 0x0000 [(0x0100, 0xE9)] with hl := 0x1234 }))).map (fun t => (t.pc, t.cycles, t.trace)) =
      some (0x1234, 4, [.read 0x0100 0xE9]) := by decide

theorem test_rst_38H_wraps :
    (nextOf (step ({ start 0xFFFF 0x0000 [(0xFFFF, 0xFF)] with sp := 0x8000 }))).map (fun t => (t.pc, t.sp, t.trace)) =
      some (0x0038, 0x7FFE, [.read 0xFFFF 0xFF, .write 0x7FFE 0x00, .write 0x7FFF 0x00]) := by decide

theorem test_rst_28H :
    (nextOf (step ({ start 0x1234 0x0000 [(0x1234, 0xEF)] with sp := 0x0000 }))).map (fun t => (t.pc, t.sp, t.cycles, t.trace)) =
      some (0x0028, 0xFFFE, 11, [.read 0x1234 0xEF, .write 0xFFFE 0x35, .write 0xFFFF 0x12]) := by decide

theorem test_jp_across_the_top :
    (nextOf (step (start 0xFFFE 0x0000 [(0x0000, 0x50), (0xFFFE, 0xC3)]))).map (fun t => (t.pc, t.trace)) =
      some (0x5000, [.read 0xFFFE 0xC3, .read 0xFFFF 0x00, .read 0x0000 0x50]) := by decide

theorem test_ei :
    (nextOf (step (start 0x0100 0x0000 [(0x0100, 0xFB)]))).map (fun t => (t.iff1, t.iff2, t.eiFF, t.pc, t.cycles)) =
      some (true, true, true, 0x0101, 4) := by decide

theorem test_di_after_ei :
    (nextOf (step ({ start 0x0100 0x0000 [(0x0100, 0xF3)] with iff1 := true, iff2 := true, eiFF := true }))).map (fun t => (t.iff1, t.iff2, t.eiFF, t.pc)) =
      some (false, false, false, 0x0101) := by decide

theorem test_jr_back :
    (nextOf (step (start 0x0010 0x0000 [(0x0010, 0x20), (0x0011, 0xF7)]))).map (fun t => (t.pc, t.cycles)) =
      some (0x0009, 12) := by decide

theorem test_jr_NZ_not_taken :
    (nextOf (step (start 0x0010 0x0044 [(0x0010, 0x20), (0x0011, 0xF7)]))).map (fun t => (t.pc, t.cycles)) =
      some (0x0012, 7) := by decide

theorem test_jr_self :
    (nextOf (step (start 0x000A 0x0000 [(0x000A, 0x18), (0x000B, 0xFE)]))).map (fun t => (t.pc, t.cycles)) =
      some (0x000A, 12) := by decide

theorem test_djnz_taken :
    (nextOf (step ({ start 0x0005 0x00FF [(0x0005, 0x10), (0x0006, 0xFD)] with bc := 0x0500 }))).map (fun t => (t.bc, t.pc, t.cycles, t.f)) =
      some (0x0400, 0x0004, 13, 0xFF) := by decide

theorem test_djnz_ends :
    (nextOf (step ({ start 0x0005 0x0000 [(0x0005, 0x10), (0x0006, 0xFD)] with bc := 0x0100 }))).map (fun t => (t.bc, t.pc, t.cycles)) =
      some (0x0000, 0x0007, 8) := by decide

theorem test_call_nn :
    (nextOf (step ({ start 0x000A 0xFFFF [(0x000A, 0xCD), (0x000C, 0x01)] with sp := 0x8FFE }))).map (fun t => (t.pc, t.sp, t.cycles, t.peek 0x8FFC, t.peek 0x8FFD)) =
      some (0x0100, 0x8FFC, 17, 0x0D, 0x00) := by decide

theorem test_ret :
    (nextOf (step ({ start 0x0106 0xFFFF [(0x0106, 0xC9), (0x8FFC, 0x0D)] with sp := 0x8FFC }))).map (fun t => (t.pc, t.sp, t.cycles)) =
      some (0x000D, 0x8FFE, 10) := by decide

/-! ## Arbitration (section 2.9), from PC = 1234, SP = 8000, both enables set -/

/-- The start of the rows of section 2.9, with memory given. -/
def armed (m : Memory) : State := { start 0x1234 0xFFFF m with sp := 0x8000, iff1 := true, iff2 := true }

/-- Row RS. -/
theorem test_reset_step :
    (nextOf (step { armed [] with resetReq := true, nmiFF := true, intLine := true, intFF := true, af := 0x1234, i := 0x40, im := .im2 })).map (fun t => (t.af, t.sp, t.pc, t.iff1, t.iff2, t.nmiFF, t.intFF, t.i, t.im, t.resetReq, t.cycles, t.trace)) =
      some (0xFFFF, 0xFFFF, 0x0000, false, false, false, true, 0x00, .im0, false, 0, []) := rfl

/-- Row NM. -/
theorem test_nmi :
    (nextOf (step { armed [] with nmiFF := true })).map (fun t => (t.pc, t.sp, t.iff1, t.iff2, t.nmiFF, t.cycles, t.trace)) =
      some (0x0066, 0x7FFE, false, true, false, 11, [.write 0x7FFE 0x34, .write 0x7FFF 0x12]) := rfl

/-- Row NE. -/
theorem test_nmi_in_the_shadow :
    (nextOf (step { armed [] with nmiFF := true, eiFF := true })).map (fun t => (t.pc, t.eiFF, t.cycles)) =
      some (0x0066, true, 11) := rfl

/-- Section 1.7, step 1. -/
theorem test_nmi_before_int :
    (nextOf (step { armed [] with nmiFF := true, intFF := true, im := .im1 })).map (fun t => (t.pc, t.iff1, t.intFF, t.cycles)) =
      some (0x0066, false, true, 11) := rfl

/-- Row M1. -/
theorem test_mode1 :
    (nextOf (step { armed [] with im := .im1, intFF := true, ackQueue := [0xAA] })).map (fun t => (t.pc, t.sp, t.iff1, t.iff2, t.intFF, t.cycles, t.trace)) =
      some (0x0038, 0x7FFE, false, false, true, 13, [.ack 0xAA, .write 0x7FFE 0x34, .write 0x7FFF 0x12]) := rfl

/-- Row M2. -/
theorem test_mode2 :
    (nextOf (step { armed [] with im := .im2, i := 0x40, intFF := true, ackQueue := [0x10] })).map (fun t => (t.pc, t.sp, t.iff1, t.iff2, t.cycles, t.trace)) =
      some (0x4010, 0x7FFE, false, false, 19, [.ack 0x10, .write 0x7FFE 0x34, .write 0x7FFF 0x12]) := rfl

/-- Row M0a. -/
theorem test_mode0_rst :
    (nextOf (step { armed [] with intFF := true, ackQueue := [0xFF] })).map (fun t => (t.pc, t.sp, t.iff1, t.cycles, t.trace)) =
      some (0x0038, 0x7FFE, false, 13, [.ack 0xFF, .write 0x7FFE 0x35, .write 0x7FFF 0x12]) := rfl

/-- Row M0b. -/
theorem test_mode0_jp :
    (nextOf (step { armed [(0x1236, 0x50)] with intFF := true, ackQueue := [0xC3] })).map (fun t => (t.pc, t.sp, t.cycles, t.trace)) =
      some (0x5000, 0x8000, 12, [.ack 0xC3, .read 0x1235 0x00, .read 0x1236 0x50]) := rfl

/-- Row M0c. -/
theorem test_mode0_nop :
    (nextOf (step { armed [] with intFF := true, ackQueue := [0x00] })).map (fun t => (t.pc, t.iff1, t.iff2, t.cycles)) =
      some (0x1235, false, false, 6) := rfl

/-- Row M0e. -/
theorem test_mode0_ei :
    (nextOf (step { armed [] with intFF := true, ackQueue := [0xFB] })).map (fun t => (t.pc, t.iff1, t.iff2, t.eiFF, t.cycles)) =
      some (0x1235, true, true, true, 6) := rfl

/-- Row MK. -/
theorem test_masked :
    (nextOf (step { armed [] with im := .im1, intFF := true, iff1 := false })).map (fun t => (t.pc, t.intFF, t.cycles, t.trace)) =
      some (0x1235, true, 4, [.read 0x1234 0x00]) := rfl

/-- Row SH. -/
theorem test_shadow :
    (nextOf (step { armed [] with im := .im1, intFF := true, eiFF := true })).map (fun t => (t.pc, t.eiFF, t.iff1, t.cycles)) =
      some (0x1235, false, true, 4) := rfl

/-- Row M0d: a fault in mode 0 keeps PC and SP, the enables stay cleared, no cycles. -/
theorem test_mode0_illegal :
    step { armed [] with intFF := true, ackQueue := [0xED] } =
      .fault (.illegalOpcode 0xED
        { armed [] with intFF := true, iff1 := false, iff2 := false, ackQueue := [], trace := [.ack 0xED] }) := rfl

/-- Section 1.9. -/
theorem test_illegal :
    step (start 0x0000 0xFFFF [(0, 0x76)]) =
      .fault (.illegalOpcode 0x76 { start 0x0000 0xFFFF [(0, 0x76)] with trace := [.read 0x0000 0x76] }) := rfl

/-- An acknowledge that the environment has not answered is a free value: the step is taken and only the count of draws shows it. -/
theorem test_unanswered_acknowledge :
    (nextOf (step { armed [] with im := .im1, intFF := true })).map (fun t => (t.pc, t.draws)) = some (0x0038, 1) := by decide

/-! ## Host operations (section 2.9) -/

theorem test_rising_edge : (setNmiLine true State.reset).nmiFF = true := by decide
theorem test_held_line : (setNmiLine true { State.reset with nmiLine := true }).nmiFF = false := by decide
theorem test_falling_edge : (setNmiLine false { State.reset with nmiLine := true, nmiFF := true }).nmiFF = true := by decide
theorem test_int_line_up : (setIntLine true State.reset).intFF = true := by decide
theorem test_int_line_down : (setIntLine false { State.reset with intLine := true, intFF := true }).intFF = false := by decide
theorem test_host_reset_keeps_the_request : (hostReset { State.reset with resetReq := true, sp := 0x8000 }).resetReq = true := by decide

/-! ## Memory -/

theorem test_writing_the_default_removes_the_entry : Memory.put [(5, 0x11)] 0x0005 0x00 = [] := by decide
theorem test_writes_are_kept_in_order : Memory.put (Memory.put [] 0xFFFF 0x01) 0x0000 0x02 = [(0, 0x02), (65535, 0x01)] := by decide

/-- R61, R73: the Bus answers the fetch at 0x0100 with LD A,(HL) and the data read of the same address with 0x5A, whatever memory holds
there. -/
theorem test_two_reads_of_one_address_may_differ :
    (nextOf (step (applyMove (.supplyRead 0x0100 0x5A) (applyMove (.supplyRead 0x0100 0x7E)
      { start 0x0100 0x00FF [(0x0100, 0x11)] with hl := 0x0100 })))).map (fun t => (t.a, t.pc, t.peek 0x0100, t.busAnswers.length, t.trace)) =
      some (0x5A, 0x0101, 0x11, 0, [.read 0x0100 0x7E, .read 0x0100 0x5A]) := by decide

/-- R75: a read of a device register need not return what was written there, and the answers of one address leave the others. -/
theorem test_device_answers_one_address :
    (nextOf (exec .inc_mHL { start 0x0100 0x0000 [(0x8000, 0x01)] with hl := 0x8000, busAnswers := [(0x9000, 0x33), (0x8000, 0x7F)] })).map
      (fun t => (t.peek 0x8000, t.f, t.busAnswers)) = some (0x80, 0x94, [(0x9000, 0x33)]) := by decide

/-! ## Witnesses: for each obligation with hypotheses, a state and operands that meet them all -/

theorem witness_DecodeInvertsEncode : wellFormed (.illegal 0xFD) = true ∧ wellFormed (.jp_nn 0xFFFF) = true := by decide

theorem witness_EncodeInvertsDecode : decode [0xFE, 0x7F, 0x00] = .ok (.cp_n 0x7F, [0x00]) := rfl

/-- Both clauses where they meet: three bytes and two bytes of a three-byte instruction. -/
theorem witness_LengthFollowsFirstByte :
    variantLength (dispatch 0xC3) ≤ ([0x34, 0x12] : List Octet).length + 1 ∧
    ([0x34] : List Octet).length + 1 < variantLength (dispatch 0xC3) := by decide

theorem witness_SevenFirstBytesAreIllegal : decode [0xCB, 0x00] = .ok (.illegal 0xCB, [0x00]) := rfl

theorem witness_HalvesAreIndependent : Reg8.C ≠ Reg8.B := by decide

/-- Nothing pending at 0xFFFF and 0x0000, where the Word access wraps, though something is pending elsewhere. -/
theorem witness_WordAccessIsLittleEndian :
    pendingAnswer [(0x1000, 0xAA)] 0xFFFF = none ∧ pendingAnswer [(0x1000, 0xAA)] (0xFFFF + 1) = none := by decide

theorem witness_PopUndoesPush :
    pendingAnswer (start 0 0 []).busAnswers ((start 0 0 []).sp - 2) = none ∧
    pendingAnswer (start 0 0 []).busAnswers ((start 0 0 []).sp - 2 + 1) = none := by decide

theorem witness_CanonicalMemoriesAreEqual :
    Memory.wf [(0, 0x01), (65535, 0xFF)] = true ∧
    ∀ a : Word, Memory.get [(0, 0x01), (65535, 0xFF)] a = Memory.get [(0, 0x01), (65535, 0xFF)] a :=
  ⟨by decide, fun _ => rfl⟩

/-- The two affections of section 1.3. -/
theorem witness_AffectionsComposeRightBiased :
    (Affection.mk 0x41 0x02).set &&& (Affection.mk 0x41 0x02).clear = 0 ∧
    (Affection.mk 0x02 0x11).set &&& (Affection.mk 0x02 0x11).clear = 0 := by decide

theorem witness_LoadRegister : Reg8.A ≠ Reg8.L := by decide
theorem witness_LoadRegisterFromMemory : Reg8.H ≠ Reg8.L := by decide
theorem witness_LoadPair : Pair.SP ≠ Pair.HL := by decide
theorem witness_PushAndPopPairs : StackPair.AF ≠ StackPair.HL := by decide
theorem witness_IncDecOctet : Reg8.D ≠ Reg8.E := by decide
theorem witness_PairArithmetic : Pair.SP ≠ Pair.BC := by decide

/-- Both clauses: N clear and N set. -/
theorem witness_DecimalAdjust :
    (start 0 0x7D28 []).f.getLsbD 1 = false ∧ (start 0 0xFA13 []).f.getLsbD 1 = true := by decide

/-- Both clauses: taken and not taken. -/
theorem witness_RelativeJumps :
    (start 0 0x0040 []).holds ShortCond.Z.toCond = true ∧ (start 0 0x0000 []).holds ShortCond.Z.toCond = false := by decide

theorem witness_Calls : (start 0 0x0080 []).holds .M = true ∧ (start 0 0x0080 []).holds .P = false := by decide

theorem witness_Returns : (start 0 0x0004 []).holds .PE = true ∧ (start 0 0x0004 []).holds .PO = false := by decide

theorem witness_IllegalFaults : illegalByteOk 0x76 = true ∧ illegalByteOk 0xFD = true := by decide

/-- A one-byte and a three-byte instruction. -/
theorem witness_StepRunsDecodedInstruction :
    (start 0 0 [(0, 0x04)]).resetReq = false ∧ (start 0 0 [(0, 0x04)]).nmiFF = false ∧
    intAccepted (start 0 0 [(0, 0x04)]) = false ∧
    decode (window (start 0 0 [(0, 0x04)])) = .ok (.inc_B, [0x00, 0x00]) ∧
    (start 0 0 [(0, 0xC3), (1, 0x34), (2, 0x12)]).resetReq = false ∧ (start 0 0 [(0, 0xC3), (1, 0x34), (2, 0x12)]).nmiFF = false ∧
    intAccepted (start 0 0 [(0, 0xC3), (1, 0x34), (2, 0x12)]) = false ∧
    decode (window (start 0 0 [(0, 0xC3), (1, 0x34), (2, 0x12)])) = .ok (.jp_nn 0x1234, []) :=
  ⟨rfl, rfl, rfl, rfl, rfl, rfl, rfl, rfl⟩

theorem witness_ResetReinitialisesTheBank : (requestReset (armed [])).resetReq = true := rfl

theorem witness_NmiEntry : (setNmiLine true (armed [])).resetReq = false ∧ (setNmiLine true (armed [])).nmiFF = true := by decide

/-- An acceptance in mode 1 and one in mode 2, with an octet supplied. -/
theorem witness_VectoredInterruptEntry :
    ([{ armed [] with im := .im1, intFF := true, ackQueue := [0x10] }, { armed [] with im := .im2, intFF := true, ackQueue := [0x10] }] :
      List State).all (fun s => !s.resetReq && !s.nmiFF && s.intFF && s.iff1 && !s.eiFF && decide (s.im ≠ .im0) &&
        decide (s.ackQueue = 0x10 :: [])) = true := by decide

/-- The state that mode 0 executes an acknowledged octet in. -/
def mode0 (v : Octet) : State := { armed [] with intFF := true, ackQueue := [v] }

/-- Both clauses: NOP, which answers a next state, and an Illegal octet, which faults. -/
theorem witness_ModeZeroExecutesAcknowledgedOpcode :
    intAccepted (mode0 0x00) = true ∧ (mode0 0x00).resetReq = false ∧ (mode0 0x00).nmiFF = false ∧ (mode0 0x00).im = .im0 ∧
    (mode0 0x00).ackQueue = 0x00 :: [] ∧ decode [0x00, 0x00, 0x00] = .ok (.nop, [0x00, 0x00]) ∧
    (∃ t, exec .nop { mode0 0x00 with iff1 := false, iff2 := false, ackQueue := [], trace := [.ack 0x00] } = .next t) ∧
    decode [0xED, 0x00, 0x00] = .ok (.illegal 0xED, [0x00, 0x00]) ∧
    (∃ r, exec (.illegal 0xED) { mode0 0xED with iff1 := false, iff2 := false, ackQueue := [], trace := [.ack 0xED] } = .fault r) :=
  ⟨rfl, rfl, rfl, rfl, rfl, rfl, ⟨_, rfl⟩, rfl, ⟨_, rfl⟩⟩

/-- EI with an INT pending, then NOP. -/
theorem witness_EiShadowLastsOneInstruction :
    ({ start 0 0 [(0, 0xFB)] with intFF := true } : State).resetReq = false ∧
    ({ start 0 0 [(0, 0xFB)] with intFF := true } : State).nmiFF = false ∧
    intAccepted { start 0 0 [(0, 0xFB)] with intFF := true } = false ∧
    ({ start 0 0 [(0, 0xFB)] with intFF := true } : State).answer 0x0000 = 0xFB ∧
    ∃ t u, step { start 0 0 [(0, 0xFB)] with intFF := true } = .next t ∧
      decode (window t) = .ok (.nop, [0x00, 0x00]) ∧ step t = .next u :=
  ⟨rfl, rfl, rfl, rfl, _, _, rfl, rfl, rfl⟩

/-- Both clauses: nothing pending, and an enabled INT that EI holds off. -/
theorem witness_IllegalStepIsNotSticky :
    [start 0 0 [(0, 0x76)], { start 0 0 [(0, 0x76)] with intFF := true, iff1 := true, eiFF := true }].all (fun s =>
      !s.resetReq && !s.nmiFF && !intAccepted s && illegalByteOk (s.answer s.pc) && decide (pendingAnswer s.busAnswers s.pc = none)) = true ∧
    [start 0 0 [(0, 0x76)], { start 0 0 [(0, 0x76)] with intFF := true, iff1 := true, eiFF := true }].map (fun s => s.intFF && s.iff1) =
      [false, true] := by decide

theorem witness_NmiComesBeforeInt :
    ({ armed [] with nmiFF := true, intFF := true } : State).nmiFF = true ∧
    ({ armed [] with nmiFF := true, intFF := true } : State).intFF = true ∧
    ({ armed [] with nmiFF := true, intFF := true } : State).resetReq = false ∧
    ({ armed [] with nmiFF := true, intFF := true } : State).iff1 = true := ⟨rfl, rfl, rfl, rfl⟩

/-- One state for each event, with the step taken. -/
theorem witness_StagesHavePriority :
    served { armed [] with resetReq := true, nmiFF := true } = .reset ∧ (∃ t, step { armed [] with resetReq := true, nmiFF := true } = .next t) ∧
    served { armed [] with nmiFF := true, intFF := true } = .nmi ∧ (∃ t, step { armed [] with nmiFF := true, intFF := true } = .next t) ∧
    served (mode0 0x00) = .int ∧ (∃ t, step (mode0 0x00) = .next t) ∧
    served (armed []) = .instruction ∧ (∃ t, step (armed []) = .next t) :=
  ⟨rfl, ⟨_, rfl⟩, rfl, ⟨_, rfl⟩, rfl, ⟨_, rfl⟩, rfl, ⟨_, rfl⟩⟩

theorem witness_PlacedWordRunsNext : decodeTableWord 8 0x04 = some .inc_B ∧ decodeTableWord 24 0xFFFFC3 = some (.jp_nn 0xFFFF) :=
  ⟨rfl, rfl⟩

/-- With the enables set, a memory that lists octets, and a step that stores. -/
theorem witness_StepKeepsInv :
    StateInv (armed [(0x1234, 0xC5)]) ∧ ∃ t, step (armed [(0x1234, 0xC5)]) = .next t :=
  ⟨⟨by decide, rfl, fun _ => rfl, fun _ => rfl⟩, ⟨_, rfl⟩⟩

theorem witness_RegularRunsKeepInv :
    StateInv (armed [(0x1234, 0x76)]) ∧
    ∀ e ∈ [Event.step, .move (.setIntLine true), .move .reset, .move (.busStore 0xFFFF 0x01)], regularEvent e = true :=
  ⟨⟨by decide, rfl, fun _ => rfl, fun _ => rfl⟩, by decide⟩

theorem witness_InstructionFrame : ∃ t, exec (Form.instr (.push .BC)) (armed []) = .next t := ⟨_, rfl⟩

/-- A step that answers a next state and one that faults. -/
theorem witness_ControlStateHasFewWriters :
    served (armed []) ≠ .reset ∧ (∃ t, step (armed []) = .next t) ∧
    served (start 0 0 [(0, 0x76)]) ≠ .reset ∧ ∃ op t, step (start 0 0 [(0, 0x76)]) = .fault (.illegalOpcode op t) :=
  ⟨by decide, ⟨_, rfl⟩, by decide, ⟨_, _, rfl⟩⟩

theorem witness_BusRecordExplainsMemory : ∃ t, step (armed [(0x1234, 0xE3)]) = .next t := ⟨_, rfl⟩

/-- The bound is met: EX (SP),HL makes five operations. -/
theorem witness_ReadsComeBeforeWrites :
    (nextOf (step (armed [(0x1234, 0xE3)]))).map (fun t => t.trace.length) = some 5 := by decide

end Sys2Proof.Tests
end

/-! SUPPORT. Every instruction as a form of R106, and the state each form ends in, written with the shared operations. -/

namespace Sys2Proof.Machine

/-! ## Every instruction is a form (R106) -/

/-- The form that an instruction is: the converse of `Form.instr`, line by line of the list of R106. -/
def formOf : Instr → Form
  | .nop => .nop | .ex_AF_AFalt => .exAF | .exx => .exx | .ex_DE_HL => .exDEHL | .ex_mSP_HL => .exStack | .di => .di | .ei => .ei
  | .daa => .daa | .cpl => .cpl | .scf => .scf | .ccf => .ccf
  | .rlca => .rotate .rlca | .rrca => .rotate .rrca | .rla => .rotate .rla | .rra => .rotate .rra
  | .djnz_e e => .djnz e | .jr_e e => .jr e | .jr_NZ_e e => .jrIf .NZ e
  | .jr_Z_e e => .jrIf .Z e | .jr_NC_e e => .jrIf .NC e | .jr_C_e e => .jrIf .C e
  | .jp_nn nn => .jp nn | .jp_HL => .jpHL | .call_nn nn => .callAt nn | .ret => .ret
  | .jp_NZ_nn nn => .jpIf .NZ nn | .jp_Z_nn nn => .jpIf .Z nn | .jp_NC_nn nn => .jpIf .NC nn | .jp_C_nn nn => .jpIf .C nn
  | .jp_PO_nn nn => .jpIf .PO nn | .jp_PE_nn nn => .jpIf .PE nn | .jp_P_nn nn => .jpIf .P nn | .jp_M_nn nn => .jpIf .M nn
  | .call_NZ_nn nn => .callIf .NZ nn | .call_Z_nn nn => .callIf .Z nn
  | .call_NC_nn nn => .callIf .NC nn | .call_C_nn nn => .callIf .C nn
  | .call_PO_nn nn => .callIf .PO nn | .call_PE_nn nn => .callIf .PE nn
  | .call_P_nn nn => .callIf .P nn | .call_M_nn nn => .callIf .M nn
  | .ret_NZ => .retIf .NZ | .ret_Z => .retIf .Z | .ret_NC => .retIf .NC | .ret_C => .retIf .C
  | .ret_PO => .retIf .PO | .ret_PE => .retIf .PE | .ret_P => .retIf .P | .ret_M => .retIf .M
  | .rst_00H => .rst 0 | .rst_08H => .rst 1 | .rst_10H => .rst 2 | .rst_18H => .rst 3
  | .rst_20H => .rst 4 | .rst_28H => .rst 5 | .rst_30H => .rst 6 | .rst_38H => .rst 7
  | .ld_BC_nn nn => .ldPairImm .BC nn | .ld_DE_nn nn => .ldPairImm .DE nn
  | .ld_HL_nn nn => .ldPairImm .HL nn | .ld_SP_nn nn => .ldPairImm .SP nn
  | .add_HL_BC => .addHL .BC | .add_HL_DE => .addHL .DE | .add_HL_HL => .addHL .HL | .add_HL_SP => .addHL .SP
  | .inc_BC => .incPair .BC | .inc_DE => .incPair .DE | .inc_HL => .incPair .HL | .inc_SP => .incPair .SP
  | .dec_BC => .decPair .BC | .dec_DE => .decPair .DE | .dec_HL => .decPair .HL | .dec_SP => .decPair .SP
  | .push_BC => .push .BC | .push_DE => .push .DE | .push_HL => .push .HL | .push_AF => .push .AF
  | .pop_BC => .pop .BC | .pop_DE => .pop .DE | .pop_HL => .pop .HL | .pop_AF => .pop .AF
  | .ld_mBC_A => .storeA .BC | .ld_mDE_A => .storeA .DE | .ld_A_mBC => .loadA .BC | .ld_A_mDE => .loadA .DE
  | .ld_mNN_A nn => .storeAAt nn | .ld_A_mNN nn => .loadAFrom nn
  | .ld_mNN_HL nn => .storeHLAt nn | .ld_HL_mNN nn => .loadHLFrom nn
  | .ld_SP_HL => .ldSPHL | .ld_mHL_n n => .storeImm n | .inc_mHL => .incMem | .dec_mHL => .decMem | .illegal op => .illegal op
  | .inc_B => .incReg .B | .inc_C => .incReg .C | .inc_D => .incReg .D | .inc_E => .incReg .E
  | .inc_H => .incReg .H | .inc_L => .incReg .L | .inc_A => .incReg .A
  | .dec_B => .decReg .B | .dec_C => .decReg .C | .dec_D => .decReg .D | .dec_E => .decReg .E
  | .dec_H => .decReg .H | .dec_L => .decReg .L | .dec_A => .decReg .A
  | .ld_B_n n => .ldRegImm .B n | .ld_C_n n => .ldRegImm .C n | .ld_D_n n => .ldRegImm .D n | .ld_E_n n => .ldRegImm .E n
  | .ld_H_n n => .ldRegImm .H n | .ld_L_n n => .ldRegImm .L n | .ld_A_n n => .ldRegImm .A n
  | .ld_B_mHL => .ldRegMem .B | .ld_C_mHL => .ldRegMem .C | .ld_D_mHL => .ldRegMem .D | .ld_E_mHL => .ldRegMem .E
  | .ld_H_mHL => .ldRegMem .H | .ld_L_mHL => .ldRegMem .L | .ld_A_mHL => .ldRegMem .A
  | .ld_mHL_B => .storeReg .B | .ld_mHL_C => .storeReg .C | .ld_mHL_D => .storeReg .D | .ld_mHL_E => .storeReg .E
  | .ld_mHL_H => .storeReg .H | .ld_mHL_L => .storeReg .L | .ld_mHL_A => .storeReg .A
  | .ld_B_B => .ldReg .B .B | .ld_B_C => .ldReg .B .C | .ld_B_D => .ldReg .B .D | .ld_B_E => .ldReg .B .E
  | .ld_B_H => .ldReg .B .H | .ld_B_L => .ldReg .B .L | .ld_B_A => .ldReg .B .A
  | .ld_C_B => .ldReg .C .B | .ld_C_C => .ldReg .C .C | .ld_C_D => .ldReg .C .D | .ld_C_E => .ldReg .C .E
  | .ld_C_H => .ldReg .C .H | .ld_C_L => .ldReg .C .L | .ld_C_A => .ldReg .C .A
  | .ld_D_B => .ldReg .D .B | .ld_D_C => .ldReg .D .C | .ld_D_D => .ldReg .D .D | .ld_D_E => .ldReg .D .E
  | .ld_D_H => .ldReg .D .H | .ld_D_L => .ldReg .D .L | .ld_D_A => .ldReg .D .A
  | .ld_E_B => .ldReg .E .B | .ld_E_C => .ldReg .E .C | .ld_E_D => .ldReg .E .D | .ld_E_E => .ldReg .E .E
  | .ld_E_H => .ldReg .E .H | .ld_E_L => .ldReg .E .L | .ld_E_A => .ldReg .E .A
  | .ld_H_B => .ldReg .H .B | .ld_H_C => .ldReg .H .C | .ld_H_D => .ldReg .H .D | .ld_H_E => .ldReg .H .E
  | .ld_H_H => .ldReg .H .H | .ld_H_L => .ldReg .H .L | .ld_H_A => .ldReg .H .A
  | .ld_L_B => .ldReg .L .B | .ld_L_C => .ldReg .L .C | .ld_L_D => .ldReg .L .D | .ld_L_E => .ldReg .L .E
  | .ld_L_H => .ldReg .L .H | .ld_L_L => .ldReg .L .L | .ld_L_A => .ldReg .L .A
  | .ld_A_B => .ldReg .A .B | .ld_A_C => .ldReg .A .C | .ld_A_D => .ldReg .A .D | .ld_A_E => .ldReg .A .E
  | .ld_A_H => .ldReg .A .H | .ld_A_L => .ldReg .A .L | .ld_A_A => .ldReg .A .A
  | .add_A_B => .alu .add (.reg .B) | .add_A_C => .alu .add (.reg .C) | .add_A_D => .alu .add (.reg .D)
  | .add_A_E => .alu .add (.reg .E) | .add_A_H => .alu .add (.reg .H) | .add_A_L => .alu .add (.reg .L)
  | .add_A_A => .alu .add (.reg .A) | .add_A_mHL => .alu .add .mHL | .add_A_n n => .alu .add (.imm n)
  | .adc_A_B => .alu .adc (.reg .B) | .adc_A_C => .alu .adc (.reg .C) | .adc_A_D => .alu .adc (.reg .D)
  | .adc_A_E => .alu .adc (.reg .E) | .adc_A_H => .alu .adc (.reg .H) | .adc_A_L => .alu .adc (.reg .L)
  | .adc_A_A => .alu .adc (.reg .A) | .adc_A_mHL => .alu .adc .mHL | .adc_A_n n => .alu .adc (.imm n)
  | .sub_B => .alu .sub (.reg .B) | .sub_C => .alu .sub (.reg .C) | .sub_D => .alu .sub (.reg .D)
  | .sub_E => .alu .sub (.reg .E) | .sub_H => .alu .sub (.reg .H) | .sub_L => .alu .sub (.reg .L)
  | .sub_A => .alu .sub (.reg .A) | .sub_mHL => .alu .sub .mHL | .sub_n n => .alu .sub (.imm n)
  | .sbc_A_B => .alu .sbc (.reg .B) | .sbc_A_C => .alu .sbc (.reg .C) | .sbc_A_D => .alu .sbc (.reg .D)
  | .sbc_A_E => .alu .sbc (.reg .E) | .sbc_A_H => .alu .sbc (.reg .H) | .sbc_A_L => .alu .sbc (.reg .L)
  | .sbc_A_A => .alu .sbc (.reg .A) | .sbc_A_mHL => .alu .sbc .mHL | .sbc_A_n n => .alu .sbc (.imm n)
  | .and_B => .alu .and (.reg .B) | .and_C => .alu .and (.reg .C) | .and_D => .alu .and (.reg .D)
  | .and_E => .alu .and (.reg .E) | .and_H => .alu .and (.reg .H) | .and_L => .alu .and (.reg .L)
  | .and_A => .alu .and (.reg .A) | .and_mHL => .alu .and .mHL | .and_n n => .alu .and (.imm n)
  | .xor_B => .alu .xor (.reg .B) | .xor_C => .alu .xor (.reg .C) | .xor_D => .alu .xor (.reg .D)
  | .xor_E => .alu .xor (.reg .E) | .xor_H => .alu .xor (.reg .H) | .xor_L => .alu .xor (.reg .L)
  | .xor_A => .alu .xor (.reg .A) | .xor_mHL => .alu .xor .mHL | .xor_n n => .alu .xor (.imm n)
  | .or_B => .alu .or (.reg .B) | .or_C => .alu .or (.reg .C) | .or_D => .alu .or (.reg .D)
  | .or_E => .alu .or (.reg .E) | .or_H => .alu .or (.reg .H) | .or_L => .alu .or (.reg .L)
  | .or_A => .alu .or (.reg .A) | .or_mHL => .alu .or .mHL | .or_n n => .alu .or (.imm n)
  | .cp_B => .alu .cp (.reg .B) | .cp_C => .alu .cp (.reg .C) | .cp_D => .alu .cp (.reg .D)
  | .cp_E => .alu .cp (.reg .E) | .cp_H => .alu .cp (.reg .H) | .cp_L => .alu .cp (.reg .L)
  | .cp_A => .alu .cp (.reg .A) | .cp_mHL => .alu .cp .mHL | .cp_n n => .alu .cp (.imm n)

theorem formOf_instr (i : Instr) : (formOf i).instr = i := by cases i <;> rfl

/-! ## The state a form ends in -/

/-- The accumulator operation of each code of R104. -/
def AluOp.run : AluOp → AluSource → State → State
  | .add => addA
  | .adc => adcA
  | .sub => subA
  | .sbc => sbcA
  | .and => andA
  | .xor => xorA
  | .or => orA
  | .cp => cpA

/-- The rotate of each code of R106 (R214 to R217). -/
def Rotation.rot : Rotation → Octet → Bool → Octet × Bool
  | .rlca => fun a _ => rotLeftCircular a
  | .rrca => fun a _ => rotRightCircular a
  | .rla => rotLeftCarry
  | .rra => rotRightCarry

/-- The state a form ends in: the shared operation of its line of R106. The sentinel hands its state to the fault as it is (R310). -/
def Form.run : Form → State → State
  | .nop => Machine.nop
  | .exAF => exchangeAF
  | .djnz e => decJumpRel e
  | .jr e => jumpRel e
  | .jrIf cc e => jumpRelIf cc e
  | .ldPairImm dd nn => loadPairImm dd nn
  | .addHL ss => Machine.addHL ss
  | .storeA p => Machine.storeA p
  | .loadA p => Machine.loadA p
  | .storeHLAt nn => Machine.storeHLAt nn
  | .loadHLFrom nn => Machine.loadHLFrom nn
  | .storeAAt nn => Machine.storeAAt nn
  | .loadAFrom nn => Machine.loadAFrom nn
  | .incPair ss => Machine.incPair ss
  | .decPair ss => Machine.decPair ss
  | .incReg r => Machine.incReg r
  | .incMem => Machine.incMem
  | .decReg r => Machine.decReg r
  | .decMem => Machine.decMem
  | .ldRegImm r n => loadRegImm r n
  | .storeImm n => Machine.storeImm n
  | .rotate k => rotateA k.rot
  | .daa => decimalAdjust
  | .cpl => complementA
  | .scf => setCarry
  | .ccf => complementCarry
  | .ldReg d r => loadReg d r
  | .ldRegMem d => loadRegMem d
  | .storeReg r => Machine.storeReg r
  | .alu op src => op.run src
  | .retIf cc => Machine.retIf cc
  | .pop qq => popPair qq
  | .ret => Machine.ret
  | .exx => exchangeAll
  | .jpHL => jumpHL
  | .ldSPHL => loadSPHL
  | .jpIf cc nn => jumpIf cc nn
  | .jp nn => jump nn
  | .exStack => exchangeStack
  | .exDEHL => exchangeDEHL
  | .di => disableInt
  | .ei => enableInt
  | .callIf cc nn => Machine.callIf cc nn
  | .push qq => pushPair qq
  | .callAt nn => Machine.callAt nn
  | .rst t => restart t
  | .illegal _ => id

theorem exec_alu (op : AluOp) (src : AluSource) (s : State) :
    exec (Form.instr (.alu op src)) s = .next (op.run src s) := by
  cases op with
  | add => exact exec_add src s
  | adc => exact exec_adc src s
  | sub => exact exec_sub src s
  | sbc => exact exec_sbc src s
  | and => exact exec_and src s
  | xor => exact exec_xor src s
  | or => exact exec_or src s
  | cp => exact exec_cp src s

/-- Every form but the sentinel answers a next state. -/
theorem exec_form {f : Form} (h : ∀ op, f ≠ .illegal op) (s : State) : exec f.instr s = .next (f.run s) := by
  cases f with
  | illegal op => exact absurd rfl (h op)
  | jrIf cc e => exact exec_jrIf cc e s
  | ldPairImm dd nn => exact exec_ldPairImm dd nn s
  | addHL ss => exact exec_addHL ss s
  | storeA p => exact exec_storeA p s
  | loadA p => exact exec_loadA p s
  | incPair ss => exact exec_incPair ss s
  | decPair ss => exact exec_decPair ss s
  | incReg r => exact exec_incReg r s
  | decReg r => exact exec_decReg r s
  | ldRegImm r n => exact exec_ldRegImm r n s
  | rotate k => cases k <;> rfl
  | ldReg d r => exact exec_ldReg d r s
  | ldRegMem d => exact exec_ldRegMem d s
  | storeReg r => exact exec_storeReg r s
  | alu op src => exact exec_alu op src s
  | retIf cc => exact exec_retIf cc s
  | pop qq => exact exec_popForm qq s
  | jpIf cc nn => exact exec_jpIf cc nn s
  | callIf cc nn => exact exec_callIf cc nn s
  | push qq => exact exec_pushForm qq s
  | rst t => exact exec_rst t s
  | _ => rfl

/-- The state in which the core stands after an outcome: the next state, or the state that a fault reports (R310). -/
def EndsIn (r : Result) (t : State) : Prop := r = .next t ∨ ∃ op, r = .fault (.illegalOpcode op t)

theorem eq_of_endsIn_next {u t : State} (h : EndsIn (.next u) t) : t = u := by
  obtain h | ⟨_, h⟩ := h <;> cases h
  rfl

theorem eq_of_endsIn_fault {op : Octet} {u t : State} (h : EndsIn (.fault (.illegalOpcode op u)) t) : t = u := by
  obtain h | ⟨_, h⟩ := h <;> cases h
  rfl

/-- Executing a form ends in the form's state, whether it completes or faults. -/
theorem exec_form_endsIn {f : Form} {s t : State} (h : EndsIn (exec f.instr s) t) : t = f.run s := by
  by_cases hf : ∃ op, f = .illegal op
  · obtain ⟨op, rfl⟩ := hf
    rw [exec_illegal] at h
    exact eq_of_endsIn_fault h
  · rw [exec_form (not_exists.1 hf)] at h
    exact eq_of_endsIn_next h

/-- Executing any instruction ends in the state of some form. -/
theorem exec_endsIn {i : Instr} {s t : State} (h : EndsIn (exec i s) t) : ∃ f : Form, t = f.run s :=
  ⟨formOf i, exec_form_endsIn (by rwa [formOf_instr])⟩

/-! ## The state a form ends in, by the operations of Machine/Ops.lean: one equation per form -/

section RunEquations

variable (s : State)

@[simp] theorem run_nop : Form.nop.run s = retire 1 4 s := rfl
@[simp] theorem run_exAF : Form.exAF.run s = retire 1 4 { s with af := s.af', af' := s.af } := rfl
@[simp] theorem run_djnz (e : Octet) : (Form.djnz e).run s =
    if decWrap (s.r8 .B) != 0 then jumpTo (relTarget s.pc e) 13 (s.setR8 .B (decWrap (s.r8 .B)))
    else retire 2 8 (s.setR8 .B (decWrap (s.r8 .B))) := rfl
@[simp] theorem run_jr (e : Octet) : (Form.jr e).run s = jumpTo (relTarget s.pc e) 12 s := rfl
@[simp] theorem run_jrIf (cc : ShortCond) (e : Octet) : (Form.jrIf cc e).run s =
    if s.holds cc.toCond then jumpTo (relTarget s.pc e) 12 s else retire 2 7 s := rfl
@[simp] theorem run_ldPairImm (dd : Pair) (nn : Word) : (Form.ldPairImm dd nn).run s = retire 3 10 (s.setR16 dd nn) := rfl
@[simp] theorem run_addHL (ss : Pair) : (Form.addHL ss).run s =
    retire 1 11 ((s.setR16 .HL (add16 s.hl (s.r16 ss)).1).affect (add16 s.hl (s.r16 ss)).2) := rfl
@[simp] theorem run_storeA (p : Pointer) : (Form.storeA p).run s = retire 1 7 (busWrite (s.pointer p) s.a s) := rfl
@[simp] theorem run_loadA (p : Pointer) : (Form.loadA p).run s =
    retire 1 7 ((busRead (s.pointer p) s).2.setR8 .A (s.answer (s.pointer p))) := rfl
@[simp] theorem run_storeHLAt (nn : Word) : (Form.storeHLAt nn).run s = retire 3 16 (busWriteWord nn s.hl s) := rfl
@[simp] theorem run_loadHLFrom (nn : Word) : (Form.loadHLFrom nn).run s =
    retire 3 16 ((busReadWord nn s).2.setR16 .HL (busReadWord nn s).1) := rfl
@[simp] theorem run_storeAAt (nn : Word) : (Form.storeAAt nn).run s = retire 3 13 (busWrite nn s.a s) := rfl
@[simp] theorem run_loadAFrom (nn : Word) : (Form.loadAFrom nn).run s =
    retire 3 13 ((busRead nn s).2.setR8 .A (s.answer nn)) := rfl
@[simp] theorem run_incPair (ss : Pair) : (Form.incPair ss).run s = retire 1 6 (s.setR16 ss (incWrap (s.r16 ss))) := rfl
@[simp] theorem run_decPair (ss : Pair) : (Form.decPair ss).run s = retire 1 6 (s.setR16 ss (decWrap (s.r16 ss))) := rfl
@[simp] theorem run_incReg (r : Reg8) : (Form.incReg r).run s =
    retire 1 4 ((s.setR8 r (inc8 (s.r8 r)).1).affect (inc8 (s.r8 r)).2) := rfl
@[simp] theorem run_incMem : Form.incMem.run s =
    retire 1 11 ((busWrite s.hl (inc8 (s.answer s.hl)).1 (busRead s.hl s).2).affect (inc8 (s.answer s.hl)).2) := rfl
@[simp] theorem run_decReg (r : Reg8) : (Form.decReg r).run s =
    retire 1 4 ((s.setR8 r (dec8 (s.r8 r)).1).affect (dec8 (s.r8 r)).2) := rfl
@[simp] theorem run_decMem : Form.decMem.run s =
    retire 1 11 ((busWrite s.hl (dec8 (s.answer s.hl)).1 (busRead s.hl s).2).affect (dec8 (s.answer s.hl)).2) := rfl
@[simp] theorem run_ldRegImm (r : Reg8) (n : Octet) : (Form.ldRegImm r n).run s = retire 2 7 (s.setR8 r n) := rfl
@[simp] theorem run_storeImm (n : Octet) : (Form.storeImm n).run s = retire 2 10 (busWrite s.hl n s) := rfl
@[simp] theorem run_rotate (k : Rotation) : (Form.rotate k).run s =
    retire 1 4 ((s.setR8 .A (k.rot s.a (s.flag maskC)).1).affect
      (rotateFlags (k.rot s.a (s.flag maskC)).1 (k.rot s.a (s.flag maskC)).2)) := rfl
@[simp] theorem run_daa : Form.daa.run s =
    retire 1 4 ((s.setR8 .A (daa s.a (s.flag maskH) (s.flag maskN) (s.flag maskC)).1).affect
      (daa s.a (s.flag maskH) (s.flag maskN) (s.flag maskC)).2) := rfl
@[simp] theorem run_cpl : Form.cpl.run s = retire 1 4 ((s.setR8 .A (s.a ^^^ 0xFF)).affect (cplFlags (s.a ^^^ 0xFF))) := rfl
@[simp] theorem run_scf : Form.scf.run s = retire 1 4 (s.affect (scfFlags s.a)) := rfl
@[simp] theorem run_ccf : Form.ccf.run s = retire 1 4 (s.affect (ccfFlags s.a (s.flag maskC))) := rfl
@[simp] theorem run_ldReg (d r : Reg8) : (Form.ldReg d r).run s = retire 1 4 (s.setR8 d (s.r8 r)) := rfl
@[simp] theorem run_ldRegMem (d : Reg8) : (Form.ldRegMem d).run s =
    retire 1 7 ((busRead s.hl s).2.setR8 d (s.answer s.hl)) := rfl
@[simp] theorem run_storeReg (r : Reg8) : (Form.storeReg r).run s = retire 1 7 (busWrite s.hl (s.r8 r) s) := rfl
@[simp] theorem run_retIf (cc : Cond) : (Form.retIf cc).run s =
    if s.holds cc then jumpTo (pop s).1 11 (pop s).2 else retire 1 5 s := rfl
@[simp] theorem run_pop (qq : StackPair) : (Form.pop qq).run s = retire 1 10 ((pop s).2.setRqq qq (pop s).1) := rfl
@[simp] theorem run_ret : Form.ret.run s = jumpTo (pop s).1 10 (pop s).2 := rfl
@[simp] theorem run_exx : Form.exx.run s =
    retire 1 4 { s with bc := s.bc', bc' := s.bc, de := s.de', de' := s.de, hl := s.hl', hl' := s.hl } := rfl
@[simp] theorem run_jpHL : Form.jpHL.run s = jumpTo s.hl 4 s := rfl
@[simp] theorem run_ldSPHL : Form.ldSPHL.run s = retire 1 6 { s with sp := s.hl } := rfl
@[simp] theorem run_jpIf (cc : Cond) (nn : Word) : (Form.jpIf cc nn).run s =
    if s.holds cc then jumpTo nn 10 s else retire 3 10 s := rfl
@[simp] theorem run_jp (nn : Word) : (Form.jp nn).run s = jumpTo nn 10 s := rfl
@[simp] theorem run_exStack : Form.exStack.run s =
    retire 1 19 ((busWriteWord s.sp s.hl (busReadWord s.sp s).2).setR16 .HL (busReadWord s.sp s).1) := rfl
@[simp] theorem run_exDEHL : Form.exDEHL.run s = retire 1 4 { s with de := s.hl, hl := s.de } := rfl
@[simp] theorem run_di : Form.di.run s = retire 1 4 { s with iff1 := false, iff2 := false } := rfl
@[simp] theorem run_ei : Form.ei.run s = retire 1 4 { s with iff1 := true, iff2 := true, eiFF := true } := rfl
@[simp] theorem run_callIf (cc : Cond) (nn : Word) : (Form.callIf cc nn).run s =
    if s.holds cc then charge 17 (call nn { s with pc := s.pc + 3 }) else retire 3 10 s := rfl
@[simp] theorem run_push (qq : StackPair) : (Form.push qq).run s = retire 1 11 (push (s.rqq qq) s) := rfl
@[simp] theorem run_callAt (nn : Word) : (Form.callAt nn).run s = charge 17 (call nn { s with pc := s.pc + 3 }) := rfl
@[simp] theorem run_rst (t : Fin 8) : (Form.rst t).run s =
    charge 11 (call (rstTarget t) { s with pc := s.pc + 1 }) := rfl
@[simp] theorem run_illegal (op : Octet) : (Form.illegal op).run s = s := rfl

end RunEquations

/-! ## The accumulator operations as one operation (R200 to R208) -/

/-- The octet for A and the affection for F, of A, the operand and the flag C before. CP gives A back as it is (R207). -/
def AluOp.result : AluOp → Octet → Octet → Bool → Octet × Affection
  | .add, a, v, _ => add8 a v false
  | .adc, a, v, c => add8 a v c
  | .sub, a, v, _ => sub8 a v false
  | .sbc, a, v, c => sub8 a v c
  | .and, a, v, _ => (a &&& v, andFlags (a &&& v))
  | .xor, a, v, _ => (a ^^^ v, orXorFlags (a ^^^ v))
  | .or, a, v, _ => (a ||| v, orXorFlags (a ||| v))
  | .cp, a, v, _ => (a, cp8 a v)

/-- Writing back what a register holds changes nothing. -/
theorem setR8_r8 (s : State) (r : Reg8) : s.setR8 r (s.r8 r) = s := by
  cases r <;> simp [State.setR8, State.r8, withHi, withLo]

@[simp] theorem run_alu (op : AluOp) (src : AluSource) (s : State) : (Form.alu op src).run s =
    retire (sourceLength src) (sourceCost src)
      (((readSource src s).2.setR8 .A (op.result s.a (readSource src s).1 (s.flag maskC)).1).affect
        (op.result s.a (readSource src s).1 (s.flag maskC)).2) := by
  cases op with
  | cp =>
    have ha : s.a = (readSource src s).2.r8 .A := by simp [State.a, State.r8]
    have hback : (readSource src s).2.setR8 .A s.a = (readSource src s).2 := by rw [ha, setR8_r8]
    simp only [AluOp.result, hback]
    rfl
  | _ => rfl

end Sys2Proof.Machine

/-! SUPPORT. The frame of every form: what its state after leaves of the state before (R24 to R41, 20_memory.md section 7). -/

namespace Sys2Proof.Machine

/-! ## Elements no form or few forms write -/

/-- No form writes I, IM, NMI_FF, INT_FF, RESET_REQ, the lines or the acknowledge side of the Bus. -/
theorem run_control (f : Form) (s : State) :
    (f.run s).i = s.i ∧ (f.run s).im = s.im ∧ (f.run s).nmiFF = s.nmiFF ∧ (f.run s).intFF = s.intFF ∧
    (f.run s).resetReq = s.resetReq ∧ (f.run s).nmiLine = s.nmiLine ∧ (f.run s).intLine = s.intLine ∧
    (f.run s).ackQueue = s.ackQueue ∧ (f.run s).draws = s.draws := by
  cases f with
  | djnz | jrIf | jpIf | callIf | retIf =>
    simp only [run_djnz, run_jrIf, run_jpIf, run_callIf, run_retIf]
    split <;> simp
  | _ => simp

theorem run_sp {f : Form} (h : writesSP f = false) (s : State) : (f.run s).sp = s.sp := by
  cases f with
  | djnz | jrIf | jpIf =>
    simp only [run_djnz, run_jrIf, run_jpIf]
    split <;> simp
  | ldPairImm p | incPair p | decPair p => cases p <;> simp_all [writesSP, State.setR16]
  | addHL | loadHLFrom | exStack => simp [State.setR16]
  | callIf | retIf | pop | ret | ldSPHL | push | callAt | rst => cases h
  | _ => simp

/-- AF' is written by EX AF,AF' alone, the other shadow pairs by EXX, IFF1 and IFF2 by EI and DI, EI_FF by EI. -/
theorem run_rarely_written (f : Form) (s : State) :
    (f ≠ .exAF → (f.run s).af' = s.af') ∧
    (f ≠ .exx → (f.run s).bc' = s.bc' ∧ (f.run s).de' = s.de' ∧ (f.run s).hl' = s.hl') ∧
    (f ≠ .ei → f ≠ .di → (f.run s).iff1 = s.iff1 ∧ (f.run s).iff2 = s.iff2) ∧
    (f ≠ .ei → (f.run s).eiFF = s.eiFF) := by
  cases f with
  | djnz | jrIf | jpIf | callIf | retIf =>
    simp only [run_djnz, run_jrIf, run_jpIf, run_callIf, run_retIf]
    split <;> simp
  | _ => simp

/-! ## The 8-bit registers (R26) -/

@[simp] theorem r8_retire (l : Word) (n : BitVec 64) (s : State) (r : Reg8) : (retire l n s).r8 r = s.r8 r :=
  r8_of_pairs rfl rfl rfl rfl r

@[simp] theorem r8_jumpTo (d : Word) (n : BitVec 64) (s : State) (r : Reg8) : (jumpTo d n s).r8 r = s.r8 r :=
  r8_of_pairs rfl rfl rfl rfl r

@[simp] theorem r8_busRead (a : Word) (s : State) (r : Reg8) : (busRead a s).2.r8 r = s.r8 r :=
  r8_of_pairs rfl rfl rfl rfl r

@[simp] theorem r8_busWrite (a : Word) (v : Octet) (s : State) (r : Reg8) : (busWrite a v s).r8 r = s.r8 r :=
  r8_of_pairs rfl rfl rfl rfl r

@[simp] theorem r8_pop (s : State) (r : Reg8) : (pop s).2.r8 r = s.r8 r := r8_of_pairs rfl rfl rfl rfl r

@[simp] theorem r8_readSource (src : AluSource) (s : State) (r : Reg8) : (readSource src s).2.r8 r = s.r8 r := by
  apply r8_of_pairs <;> simp

/-- A write of a pair leaves the registers that are no half of it. -/
theorem r8_setR16_ne (s : State) {p : Pair} {r : Reg8} (w : Word) (h : r ∉ pairHalves p) : (s.setR16 p w).r8 r = s.r8 r := by
  cases p <;> cases r <;> simp [pairHalves, State.setR16, State.r8] at h ⊢

/-- A write of a stacked pair leaves the registers that are no half of it. -/
theorem r8_setRqq_ne (s : State) {q : StackPair} {r : Reg8} (w : Word) (h : r ∉ stackPairHalves q) :
    (s.setRqq q w).r8 r = s.r8 r := by
  cases q <;> cases r <;> simp [stackPairHalves, State.setRqq, State.r8] at h ⊢

/-- The 8-bit registers a form does not write keep their octets; CP gives A back. -/
theorem run_r8 {f : Form} {r : Reg8} (h : r ∉ writesReg f) (s : State) : (f.run s).r8 r = s.r8 r := by
  cases f with
  | djnz =>
    have hB : r ≠ .B := by simpa [writesReg] using h
    simp only [run_djnz]
    split <;> simp [r8_setR8_ne _ _ hB]
  | incReg d | decReg d | ldRegImm d | ldReg d | ldRegMem d =>
    have hd : r ≠ d := by simpa [writesReg] using h
    simp [r8_setR8_ne _ _ hd]
  | loadA | loadAFrom | rotate | daa | cpl =>
    have hA : r ≠ .A := by simpa [writesReg] using h
    simp [r8_setR8_ne _ _ hA]
  | alu op src =>
    by_cases hop : op = .cp ∧ r = .A
    · obtain ⟨rfl, rfl⟩ := hop
      simp only [run_alu, r8_retire, r8_affect, r8_setR8_same]
      rfl
    · have hA : r ≠ .A := fun hr => hop (by simpa [writesReg, hr] using h)
      simp [r8_setR8_ne _ _ hA]
  | ldPairImm dd | incPair dd | decPair dd => simp [r8_setR16_ne _ _ (show r ∉ pairHalves dd from h)]
  | pop qq => simp [r8_setRqq_ne _ _ (show r ∉ stackPairHalves qq from h)]
  | incMem | decMem | scf | ccf => simp
  | exAF | exx | exDEHL | exStack | loadHLFrom | addHL => cases r <;> simp [writesReg, State.r8, State.setR16] at h ⊢
  | jrIf | jpIf | callIf | retIf =>
    simp only [run_jrIf, run_jpIf, run_callIf, run_retIf]
    split <;> (apply r8_of_pairs <;> simp)
  | _ => apply r8_of_pairs <;> simp

/-! ## F (R28) -/

@[simp] theorem f_retire (l : Word) (n : BitVec 64) (s : State) : (retire l n s).f = s.f := rfl

@[simp] theorem f_jumpTo (d : Word) (n : BitVec 64) (s : State) : (jumpTo d n s).f = s.f := rfl

@[simp] theorem f_busRead (a : Word) (s : State) : (busRead a s).2.f = s.f := rfl

/-- An instruction that ends with an affection leaves the flags outside those that the affection touches. -/
theorem f_retire_affect {x : Affection} {m : Octet} {u s : State} (hx : x.set ||| x.clear = m) (hu : u.f = s.f)
    (l : Word) (n : BitVec 64) : (retire l n (u.affect x)).f &&& ~~~m = s.f &&& ~~~m := by
  show (u.affect x).f &&& ~~~m = _
  rw [f_affect, applyAff_keeps u.f (by rw [hx]; exact BitVec.and_not_self m), hu]

/-- Each affection touches the flags of its table (R126 to R135) and no other form but EX AF,AF' and POP AF writes F. -/
theorem run_f (f : Form) (s : State) : (f.run s).f &&& ~~~writesFlags f = s.f &&& ~~~writesFlags f := by
  cases f with
  | incReg => exact f_retire_affect (inc8_touches _) (f_setR8 ..) _ _
  | decReg => exact f_retire_affect (dec8_touches _) (f_setR8 ..) _ _
  | incMem => exact f_retire_affect (inc8_touches _) rfl _ _
  | decMem => exact f_retire_affect (dec8_touches _) rfl _ _
  | addHL => exact f_retire_affect (add16_touches _ _) rfl _ _
  | rotate => exact f_retire_affect (rotateFlags_touches _ _) (f_setR8 ..) _ _
  | daa => exact f_retire_affect (daa_touches _ _ _ _) (f_setR8 ..) _ _
  | cpl => exact f_retire_affect (cplFlags_touches _) (f_setR8 ..) _ _
  | scf => exact f_retire_affect (scfFlags_touches _) rfl _ _
  | ccf => exact f_retire_affect (ccfFlags_touches _ _) rfl _ _
  | exAF | alu => simp [writesFlags]
  | pop qq => cases qq <;> simp [writesFlags, State.f, State.setRqq]
  | ldPairImm | incPair | decPair => simp [State.f]
  | ldRegImm | ldReg | ldRegMem | loadA | loadAFrom => simp
  | djnz | jrIf | jpIf =>
    simp only [run_djnz, run_jrIf, run_jpIf]
    split <;> simp
  | callIf | retIf =>
    simp only [run_callIf, run_retIf]
    split <;> simp [State.f]
  | _ => simp [State.f]

/-! ## Memory and the pending answers (20_memory.md section 7) -/

theorem run_peek {f : Form} {s : State} {b : Word} (h : b ∉ storesTo f s) : (f.run s).peek b = s.peek b := by
  cases f with
  | djnz | jrIf | jpIf | retIf =>
    simp only [run_djnz, run_jrIf, run_jpIf, run_retIf]
    split <;> simp [peek_def]
  | callIf cc =>
    by_cases hc : s.holds cc <;> simp_all [storesTo, peek_def]
  | _ => simp_all [storesTo, peek_def]

/-- Every store keeps the canonical form of memory. -/
theorem run_wf (f : Form) {s : State} (h : Memory.wf s.mem = true) : Memory.wf (f.run s).mem = true := by
  cases f with
  | djnz | jrIf | jpIf | callIf | retIf =>
    simp only [run_djnz, run_jrIf, run_jpIf, run_callIf, run_retIf]
    split <;> simp [wf_put, h]
  | _ => simp [wf_put, h]

theorem run_pendingAnswer {f : Form} {s : State} {b : Word} (h : b ∉ loadsFrom f s) :
    pendingAnswer (f.run s).busAnswers b = pendingAnswer s.busAnswers b := by
  cases f with
  | djnz | jrIf | jpIf | callIf =>
    simp only [run_djnz, run_jrIf, run_jpIf, run_callIf]
    split <;> simp
  | retIf cc =>
    by_cases hc : s.holds cc <;> simp_all [loadsFrom, pendingAnswer_dropAnswer_ne]
  | alu _ src => cases src <;> simp_all [loadsFrom, pendingAnswer_dropAnswer_ne, readSource]
  | _ => simp_all [loadsFrom, pendingAnswer_dropAnswer_ne]

/-- Settles O54: the frame of the form's state, clause by clause. -/
theorem instructionFrame : Obligations.InstructionFrame := by
  intro f s t h
  obtain rfl := exec_form_endsIn (.inl h)
  obtain ⟨hi, him, hnmi, hint, hreq, hnl, hil, hack, hdraws⟩ := run_control f s
  obtain ⟨haf', hshadows, hiffs, heiFF⟩ := run_rarely_written f s
  exact ⟨fun r hr => run_r8 hr s, run_f f s, fun hsp => run_sp hsp s, haf', hshadows, hiffs, heiFF,
    hi, him, hnmi, hint, hreq, hnl, hil, hack, hdraws, fun _ hb => run_peek hb, fun _ hb => run_pendingAnswer hb⟩

end Sys2Proof.Machine

/-! SUPPORT. Where a step can end, said once for the four stages of R300, and the invariant through steps and moves. -/

namespace Sys2Proof.Machine

/-! ## Where a step can end -/

/-- Executing from the octet of a fetch or an acknowledge ends in the state of some form, run after the reads of the immediates. -/
theorem executeOpcode_endsIn {op : Octet} {s t : State} (h : EndsIn (executeOpcode op s) t) :
    ∃ f q tr, t = Form.run f { s with busAnswers := q, trace := tr } := by
  obtain ⟨f, hf⟩ := exec_endsIn h
  rw [completeFetch_state] at hf
  exact ⟨f, _, _, hf⟩

/-- A surcharge moves the counter alone (R306); a fault is charged nothing (R310). -/
theorem surcharge_endsIn {n : BitVec 64} {r : Result} {t : State} (h : EndsIn (surcharge n r) t) :
    ∃ u k, EndsIn r u ∧ t = charge k u := by
  cases r with
  | next u =>
    exact ⟨u, n, .inl rfl, eq_of_endsIn_next h⟩
  | fault r => exact ⟨t, 0, h, by simp [charge]⟩
  | refused r => obtain h | ⟨_, h⟩ := h <;> cases h

/-- An acknowledge changes the acknowledge side of the Bus and the record alone (R64). -/
theorem intAck_state (s : State) :
    (intAck s).2 = { s with ackQueue := (intAck s).2.ackQueue, draws := (intAck s).2.draws, trace := (intAck s).2.trace } := by
  obtain ⟨v, rest, -, h⟩ | ⟨-, h⟩ := intAck_cases s <;> rw [h]

/-- What an accepted interrupt leaves before its mode takes over (R304): both enables cleared, the Bus used. -/
def Acknowledged (s u : State) : Prop :=
  ∃ q a d tr, u = { s with iff1 := false, iff2 := false, busAnswers := q, ackQueue := a, draws := d, trace := tr }

/-- An accepted interrupt runs a form (mode 0, R306) or enters a handler (modes 1 and 2, R307, R308). -/
theorem intStage_endsIn {s t : State} (h : EndsIn (intStage (startStep s)) t) :
    ∃ u, Acknowledged s u ∧ ((∃ f n, t = charge n (Form.run f u)) ∨ ∃ d n, t = enterHandler d n u) := by
  have hu := intAck_state { startStep s with iff1 := false, iff2 := false }
  unfold intStage at h
  split at h
  · obtain ⟨w, k, hw, rfl⟩ := surcharge_endsIn h
    obtain ⟨f, q, tr, rfl⟩ := executeOpcode_endsIn hw
    rw [hu]
    exact ⟨_, ⟨_, _, _, _, rfl⟩, .inl ⟨f, k, rfl⟩⟩
  all_goals
    obtain rfl := eq_of_endsIn_next h
    rw [hu]
    exact ⟨_, ⟨_, _, _, _, rfl⟩, .inr ⟨_, _, rfl⟩⟩

/-- Everything a step can end in, a fault included: one line per stage of R300. -/
theorem step_endsIn {s t : State} (h : EndsIn (step s) t) :
    (s.resetReq = true ∧ t = resetStage (startStep s)) ∨
    (s.resetReq = false ∧ s.nmiFF = true ∧ t = nmiStage (startStep s)) ∨
    (s.resetReq = false ∧ s.nmiFF = false ∧ intAccepted s = true ∧
      ∃ u, Acknowledged s u ∧ ((∃ f n, t = charge n (Form.run f u)) ∨ ∃ d n, t = enterHandler d n u)) ∨
    (s.resetReq = false ∧ s.nmiFF = false ∧ intAccepted s = false ∧
      ∃ f q tr, t = Form.run f { s with eiFF := false, busAnswers := q, trace := tr }) := by
  obtain ⟨h1, e⟩ | ⟨h1, h2, e⟩ | ⟨h1, h2, h3, e⟩ | ⟨h1, h2, h3, e⟩ := step_cases s <;> rw [e] at h
  · exact .inl ⟨h1, eq_of_endsIn_next h⟩
  · exact .inr (.inl ⟨h1, h2, eq_of_endsIn_next h⟩)
  · exact .inr (.inr (.inl ⟨h1, h2, h3, intStage_endsIn h⟩))
  · exact .inr (.inr (.inr ⟨h1, h2, h3, executeOpcode_endsIn h⟩))

/-! ## The invariant -/

/-- The invariant speaks of the memory and five flip-flops and lines. -/
theorem inv_of_fields {s t : State} (h : StateInv s) (hm : Memory.wf t.mem = true) (h1 : t.iff1 = s.iff1) (h2 : t.iff2 = s.iff2)
    (he : t.eiFF = s.eiFF) (hi : t.intFF = s.intFF) (hl : t.intLine = s.intLine) : StateInv t := by
  obtain ⟨-, hint, hiff, hei⟩ := h
  exact ⟨hm, by rw [hi, hl, hint], by rwa [h1, h2], by rwa [he, h2]⟩

/-- With EI_FF clear, as every stage that runs an instruction leaves it, a form keeps the invariant: EI sets all three enables, DI
clears both. -/
theorem inv_run (f : Form) {s : State} (h : StateInv s) (he : s.eiFF = false) : StateInv (f.run s) := by
  obtain ⟨hmem, hint, hiff, hei⟩ := h
  obtain ⟨-, -, -, hi, -, -, hl, -, -⟩ := run_control f s
  obtain ⟨-, -, hiffs, heiFF⟩ := run_rarely_written f s
  by_cases hfe : f = .ei
  · subst hfe
    exact ⟨hmem, hint, fun _ => rfl, fun _ => rfl⟩
  by_cases hfd : f = .di
  · subst hfd
    exact ⟨hmem, hint, by simp, by simp [he]⟩
  obtain ⟨h1, h2⟩ := hiffs hfe hfd
  exact inv_of_fields ⟨hmem, hint, hiff, hei⟩ (run_wf f hmem) h1 h2 (heiFF hfe) hi hl

/-- Entering a handler pushes PC and changes none of the flip-flops. -/
theorem inv_enterHandler {s : State} (d : Word) (n : BitVec 64) (h : StateInv s) : StateInv (enterHandler d n s) := by
  refine inv_of_fields h (wf_call d h.1) ?_ ?_ ?_ ?_ ?_ <;> simp

/-- The counter is no element of the invariant. -/
theorem inv_charge {s : State} (n : BitVec 64) (h : StateInv s) : StateInv (charge n s) := h

/-- The reset operation takes INT_FF from the line and clears the enables (R350). -/
theorem inv_resetRegisterBank {s : State} (h : StateInv s) : StateInv (resetRegisterBank s) :=
  ⟨h.1, rfl, by simp [resetRegisterBank], by simp [resetRegisterBank]⟩

/-- A step keeps the invariant, and so does one that faults. -/
theorem inv_of_step_endsIn {s t : State} (h : StateInv s) (ht : EndsIn (step s) t) : StateInv t := by
  obtain ⟨-, rfl⟩ | ⟨-, -, rfl⟩ | ⟨-, -, hacc, u, hu, ht⟩ | ⟨-, -, -, f, q, tr, rfl⟩ := step_endsIn ht
  · exact inv_resetRegisterBank (s := startStep s) h
  · obtain ⟨hmem, hint, -, hei⟩ := h
    exact inv_enterHandler _ _ ⟨hmem, hint, nofun, hei⟩
  · have he : s.eiFF = false := by simp_all [intAccepted]
    obtain ⟨q, a, d, tr, rfl⟩ := hu
    have hinv : StateInv { s with iff1 := false, iff2 := false, busAnswers := q, ackQueue := a, draws := d, trace := tr } :=
      ⟨h.1, h.2.1, nofun, by simp [he]⟩
    obtain ⟨f, n, rfl⟩ | ⟨dest, n, rfl⟩ := ht
    · exact inv_charge n (inv_run f hinv he)
    · exact inv_enterHandler dest n hinv
  · obtain ⟨hmem, hint, hiff, -⟩ := h
    exact inv_run f ⟨hmem, hint, hiff, nofun⟩ rfl

/-- Settles O52: each stage of R300 keeps the invariant. -/
theorem stepKeepsInv : Obligations.StepKeepsInv := fun _ _ h ht => inv_of_step_endsIn h (.inl ht)

/-- A step event leaves the core where its step ends (a refusal, which no arm of `exec` gives, would leave it where it was). -/
theorem stepOrFault_cases (s : State) : stepOrFault s = s ∨ EndsIn (step s) (stepOrFault s) := by
  unfold stepOrFault
  rcases h : step s with t | ⟨op, t⟩ | r
  · exact .inr (.inl rfl)
  · exact .inr (.inr ⟨op, rfl⟩)
  · exact .inl rfl

/-- Of the moves that are left to a regular run, `reset()` and `setIntLine` set INT_FF to the line, a store keeps the memory canonical,
and no other touches an element of the invariant. -/
theorem inv_applyMove {m : EnvMove} {s : State} (hm : regularEvent (.move m) = true) (h : StateInv s) :
    StateInv (applyMove m s) := by
  cases m with
  | writeIFF1 | writeIFF2 | writeIntFF | writeEiFF => cases hm
  | reset => exact inv_resetRegisterBank h
  | setIntLine b => exact ⟨h.1, rfl, h.2.2⟩
  | busStore a v => exact inv_of_fields h (wf_put a v h.1) rfl rfl rfl rfl rfl
  | writeReg r => cases r <;> exact h
  | writePair q | writeShadow q => cases q <;> exact h
  | _ => exact h

/-- Settles O53, by induction on the list of events. -/
theorem regularRunsKeepInv : Obligations.RegularRunsKeepInv := by
  intro es
  induction es with
  | nil => exact fun s h _ => h
  | cons e es ih =>
    intro s h hes
    obtain ⟨he, hes⟩ := List.forall_mem_cons.1 hes
    refine ih _ ?_ hes
    cases e with
    | move m => exact inv_applyMove he h
    | step =>
      obtain e | e := stepOrFault_cases s
      · exact (congrArg StateInv e).mpr h
      · exact inv_of_step_endsIn h e

/-! ## Who writes the control state (R32 to R41) -/

/-- What a stage that serves no reset leaves as it was, but that it may clear NMI_FF. -/
structure KeepsControl (s t : State) : Prop where
  nmiLine : t.nmiLine = s.nmiLine
  intLine : t.intLine = s.intLine
  i : t.i = s.i
  im : t.im = s.im
  intFF : t.intFF = s.intFF
  resetReq : t.resetReq = s.resetReq
  nmiFF : t.nmiFF = true → s.nmiFF = true

theorem keepsControl_run (f : Form) {s u : State} (h : KeepsControl s u) : KeepsControl s (f.run u) := by
  obtain ⟨hi, him, hnmi, hint, hreq, hnl, hil, -, -⟩ := run_control f u
  exact ⟨hnl.trans h.nmiLine, hil.trans h.intLine, hi.trans h.i, him.trans h.im, hint.trans h.intFF, hreq.trans h.resetReq,
    fun hn => h.nmiFF (hnmi ▸ hn)⟩

theorem keepsControl_charge (n : BitVec 64) {s u : State} (h : KeepsControl s u) : KeepsControl s (charge n u) :=
  ⟨h.nmiLine, h.intLine, h.i, h.im, h.intFF, h.resetReq, h.nmiFF⟩

theorem keepsControl_enterHandler (d : Word) (n : BitVec 64) {s u : State} (h : KeepsControl s u) :
    KeepsControl s (enterHandler d n u) := by
  obtain ⟨hnl, hil, hi, him, hint, hreq, hnmi⟩ := h
  constructor <;> simpa

/-- A step that serves no reset, one that faults included. -/
theorem keepsControl_step {s t : State} (hr : s.resetReq = false) (ht : EndsIn (step s) t) : KeepsControl s t := by
  obtain ⟨h, -⟩ | ⟨-, -, rfl⟩ | ⟨-, -, -, u, ⟨q, a, d, tr, rfl⟩, ht⟩ | ⟨-, -, -, f, q, tr, rfl⟩ := step_endsIn ht
  · simp [h] at hr
  · exact keepsControl_enterHandler _ _ ⟨rfl, rfl, rfl, rfl, rfl, rfl, nofun⟩
  · obtain ⟨f, n, rfl⟩ | ⟨dest, n, rfl⟩ := ht
    · exact keepsControl_charge n (keepsControl_run f ⟨rfl, rfl, rfl, rfl, rfl, rfl, id⟩)
    · exact keepsControl_enterHandler dest n ⟨rfl, rfl, rfl, rfl, rfl, rfl, id⟩
  · exact keepsControl_run f ⟨rfl, rfl, rfl, rfl, rfl, rfl, id⟩

/-- Settles O55: a reset step names what it writes; no other stage writes the control state, but NMI entry clears NMI_FF. -/
theorem controlStateHasFewWriters : Obligations.ControlStateHasFewWriters := by
  refine ⟨fun s t ht => ?_, fun s => ⟨rfl, rfl⟩, fun s b => rfl⟩
  cases hr : s.resetReq with
  | true =>
    rw [step_reset hr] at ht
    obtain rfl := eq_of_endsIn_next ht
    exact ⟨rfl, rfl, fun hs => absurd (by simp [served, hr]) hs, nofun, nofun⟩
  | false =>
    obtain ⟨hnl, hil, hi, him, hint, hreq, hnmi⟩ := keepsControl_step hr ht
    exact ⟨hnl, hil, fun _ => ⟨hi, him, hint, hreq.trans hr⟩, hnmi, by simp [hreq, hr]⟩

end Sys2Proof.Machine

/-! SUPPORT. Hidden elements: CYCLES and IFF2 reach no other element of the state (R34, R40). Each operation is shown to commute with
forgetting the element, for both at once. -/

namespace Sys2Proof.Machine

/-- The two elements that no step reads. -/
inductive Hidden where
  | cycles
  | iff2

/-- Forget the element. -/
def forget : Hidden → State → State
  | .cycles => forgetCycles
  | .iff2 => forgetIFF2

section Forget

variable (k : Hidden) (s : State)

@[simp] theorem forget_idem : forget k (forget k s) = forget k s := by cases k <;> rfl

/-! ## What the operations read -/

@[simp] theorem af_forget : (forget k s).af = s.af := by cases k <;> rfl
@[simp] theorem bc_forget : (forget k s).bc = s.bc := by cases k <;> rfl
@[simp] theorem de_forget : (forget k s).de = s.de := by cases k <;> rfl
@[simp] theorem hl_forget : (forget k s).hl = s.hl := by cases k <;> rfl
@[simp] theorem pc_forget : (forget k s).pc = s.pc := by cases k <;> rfl
@[simp] theorem sp_forget : (forget k s).sp = s.sp := by cases k <;> rfl
@[simp] theorem a_forget : (forget k s).a = s.a := by cases k <;> rfl
@[simp] theorem flag_forget (m : Octet) : (forget k s).flag m = s.flag m := by cases k <;> rfl
@[simp] theorem holds_forget (cc : Cond) : (forget k s).holds cc = s.holds cc := by cases k <;> cases cc <;> rfl
@[simp] theorem r8_forget (r : Reg8) : (forget k s).r8 r = s.r8 r := by cases k <;> cases r <;> rfl
@[simp] theorem r16_forget (p : Pair) : (forget k s).r16 p = s.r16 p := by cases k <;> cases p <;> rfl
@[simp] theorem rqq_forget (q : StackPair) : (forget k s).rqq q = s.rqq q := by cases k <;> cases q <;> rfl
@[simp] theorem pointer_forget (p : Pointer) : (forget k s).pointer p = s.pointer p := by cases k <;> cases p <;> rfl
@[simp] theorem answer_forget (a : Word) : (forget k s).answer a = s.answer a := by cases k <;> rfl

/-! ## What they write -/

@[simp] theorem setR8_forget (r : Reg8) (v : Octet) : (forget k s).setR8 r v = forget k (s.setR8 r v) := by
  cases k <;> cases r <;> rfl
@[simp] theorem setR16_forget (p : Pair) (w : Word) : (forget k s).setR16 p w = forget k (s.setR16 p w) := by
  cases k <;> cases p <;> rfl
@[simp] theorem setRqq_forget (q : StackPair) (w : Word) : (forget k s).setRqq q w = forget k (s.setRqq q w) := by
  cases k <;> cases q <;> rfl
@[simp] theorem affect_forget (x : Affection) : (forget k s).affect x = forget k (s.affect x) := by cases k <;> rfl
@[simp] theorem busRead_forget (a : Word) : busRead a (forget k s) = ((busRead a s).1, forget k (busRead a s).2) := by
  cases k <;> rfl
@[simp] theorem busWrite_forget (a : Word) (v : Octet) : busWrite a v (forget k s) = forget k (busWrite a v s) := by
  cases k <;> rfl
@[simp] theorem busReadWord_forget (a : Word) :
    busReadWord a (forget k s) = ((busReadWord a s).1, forget k (busReadWord a s).2) := by simp [busReadWord]
@[simp] theorem busWriteWord_forget (a w : Word) : busWriteWord a w (forget k s) = forget k (busWriteWord a w s) := by
  simp [busWriteWord]
@[simp] theorem push_forget (w : Word) : push w (forget k s) = forget k (push w s) := by cases k <;> rfl
@[simp] theorem pop_forget : pop (forget k s) = ((pop s).1, forget k (pop s).2) := by cases k <;> rfl
@[simp] theorem readSource_forget (src : AluSource) :
    readSource src (forget k s) = ((readSource src s).1, forget k (readSource src s).2) := by
  cases src <;> simp [readSource]

/-! ## What ends an instruction: the counter is charged -/

@[simp] theorem forget_charge (n : BitVec 64) : forget k (charge n (forget k s)) = forget k (charge n s) := by
  cases k <;> rfl
@[simp] theorem forget_retire (l : Word) (n : BitVec 64) : forget k (retire l n (forget k s)) = forget k (retire l n s) := by
  cases k <;> rfl
@[simp] theorem forget_jumpTo (d : Word) (n : BitVec 64) : forget k (jumpTo d n (forget k s)) = forget k (jumpTo d n s) := by
  cases k <;> rfl

/-! ## A call: PC is written, then pushed -/

theorem withPC_forget (w : Word) : ({ forget k s with pc := w } : State) = forget k { s with pc := w } := by cases k <;> rfl

theorem call_forget (d : Word) : call d (forget k s) = forget k (call d s) := by
  unfold call
  rw [pc_forget, push_forget, withPC_forget]

/-- CALL and RST: the call from the next instruction's address. -/
theorem forget_callNext (d l : Word) (n : BitVec 64) :
    forget k (charge n (call d { forget k s with pc := (forget k s).pc + l })) =
      forget k (charge n (call d { s with pc := s.pc + l })) := by
  rw [pc_forget, withPC_forget, call_forget, forget_charge]

theorem forget_enterHandler (d : Word) (n : BitVec 64) :
    forget k (enterHandler d n (forget k s)) = forget k (enterHandler d n s) := by
  unfold enterHandler
  rw [call_forget, forget_charge]

end Forget

/-- No form reads the element: what it writes elsewhere is as if the element had been forgotten before. -/
theorem run_forget (k : Hidden) (f : Form) (s : State) : forget k (f.run (forget k s)) = forget k (f.run s) := by
  cases f with
  | djnz | jrIf | jpIf | retIf =>
    simp only [run_djnz, run_jrIf, run_jpIf, run_retIf, r8_forget, setR8_forget, holds_forget, pc_forget, pop_forget]
    split <;> simp
  | callIf cc nn =>
    simp only [run_callIf, holds_forget]
    split
    · exact forget_callNext k s nn 3 17
    · simp
  | callAt nn => exact forget_callNext k s nn 3 17
  | rst t => exact forget_callNext k s (rstTarget t) 1 11
  | exAF | exx | exDEHL | ldSPHL | di | ei => cases k <;> rfl
  | _ => simp

/-! ## Outcomes and stages -/

/-- Two outcomes agree but for the element. -/
def Agree (k : Hidden) (r r' : Result) : Prop := mapOutcome (forget k) r = mapOutcome (forget k) r'

theorem agree_next {k : Hidden} {t t' : State} (h : forget k t = forget k t') : Agree k (.next t) (.next t') :=
  congrArg Host.Outcome.next h

/-- No instruction reads the element; the sentinel's fault carries the state as it is. -/
theorem exec_forget (k : Hidden) (i : Instr) (s : State) : Agree k (exec i (forget k s)) (exec i s) := by
  rw [← formOf_instr i]
  by_cases hf : ∃ op, formOf i = .illegal op
  · obtain ⟨op, hf⟩ := hf
    rw [hf, exec_illegal, exec_illegal]
    simp [Agree, mapOutcome]
  · rw [exec_form (not_exists.1 hf), exec_form (not_exists.1 hf)]
    exact agree_next (run_forget k _ s)

theorem completeFetch_forget (k : Hidden) (op : Octet) (s : State) :
    completeFetch op (forget k s) = ((completeFetch op s).1, forget k (completeFetch op s).2) := by
  unfold completeFetch
  split <;> simp

theorem executeOpcode_forget (k : Hidden) (op : Octet) (s : State) :
    Agree k (executeOpcode op (forget k s)) (executeOpcode op s) := by
  unfold executeOpcode
  rw [completeFetch_forget]
  exact exec_forget k _ _

/-- What a surcharge leaves of an outcome but for the element depends on the outcome but for the element. -/
theorem surcharge_forget (k : Hidden) (n : BitVec 64) (r : Result) :
    mapOutcome (forget k) (surcharge n (mapOutcome (forget k) r)) = mapOutcome (forget k) (surcharge n r) := by
  rcases r with t | ⟨op, t⟩ | r <;> simp [mapOutcome, surcharge]

theorem agree_surcharge {k : Hidden} {r r' : Result} (n : BitVec 64) (h : Agree k r r') :
    Agree k (surcharge n r) (surcharge n r') := by
  unfold Agree at *
  rw [← surcharge_forget, h, surcharge_forget]

@[simp] theorem intAck_forget (k : Hidden) (s : State) : intAck (forget k s) = ((intAck s).1, forget k (intAck s).2) := by
  have hq : (forget k s).ackQueue = s.ackQueue := by cases k <;> rfl
  unfold intAck
  rw [hq]
  split <;> cases k <;> rfl

theorem nmiStage_forget (k : Hidden) (s : State) : forget k (nmiStage (forget k s)) = forget k (nmiStage s) := by
  have hu : ({ forget k s with iff1 := false, nmiFF := false } : State) = forget k { s with iff1 := false, nmiFF := false } := by
    cases k <;> rfl
  unfold nmiStage
  rw [hu, forget_enterHandler]

/-- An accepted interrupt clears IFF2 before anything else (R304), and its vector comes from I and the acknowledge. -/
theorem intStage_forget (k : Hidden) (s : State) : Agree k (intStage (forget k s)) (intStage s) := by
  have hu : ({ forget k s with iff1 := false, iff2 := false } : State) = forget k { s with iff1 := false, iff2 := false } := by
    cases k <;> rfl
  have him : (forget k s).im = s.im := by cases k <;> rfl
  have hi : (forget k s).i = s.i := by cases k <;> rfl
  unfold intStage
  rw [hu, him, hi, intAck_forget]
  split
  · exact agree_surcharge 2 (executeOpcode_forget k _ _)
  · exact agree_next (forget_enterHandler k _ _ _)
  · exact agree_next (forget_enterHandler k _ _ _)

theorem instructionStage_forget (k : Hidden) (s : State) : Agree k (instructionStage (forget k s)) (instructionStage s) := by
  have hu : ({ forget k s with eiFF := false } : State) = forget k { s with eiFF := false } := by cases k <;> rfl
  unfold instructionStage
  rw [hu, pc_forget, busRead_forget]
  exact executeOpcode_forget k _ _

/-- No step reads the element: each stage of R300 decides and acts by the others. -/
theorem step_forget (k : Hidden) (s : State) : Agree k (step (forget k s)) (step s) := by
  have hreq : (forget k s).resetReq = s.resetReq := by cases k <;> rfl
  have hnmi : (forget k s).nmiFF = s.nmiFF := by cases k <;> rfl
  have hacc : intAccepted (forget k s) = intAccepted s := by cases k <;> rfl
  have hstart : startStep (forget k s) = forget k (startStep s) := by cases k <;> rfl
  unfold step arbitrate
  rw [hreq, hnmi, hacc, hstart]
  split
  · exact agree_next (by cases k <;> rfl)
  split
  · exact agree_next (nmiStage_forget k _)
  split
  · exact intStage_forget k _
  · exact instructionStage_forget k _

/-- Writing the element first changes nothing in a step but the element. -/
theorem step_of_forget_eq {k : Hidden} {s s' : State} (h : forget k s' = forget k s) : Agree k (step s') (step s) := by
  calc mapOutcome (forget k) (step s') = mapOutcome (forget k) (step (forget k s')) := (step_forget k s').symm
    _ = mapOutcome (forget k) (step (forget k s)) := by rw [h]
    _ = mapOutcome (forget k) (step s) := step_forget k s

/-- Settles O56: CYCLES is hidden. -/
theorem cyclesAreTelemetry : Obligations.CyclesAreTelemetry := fun _ _ => step_of_forget_eq (k := .cycles) rfl

/-- Settles O57: IFF2 is hidden. -/
theorem savedEnableIsNeverRead : Obligations.SavedEnableIsNeverRead := fun _ _ => step_of_forget_eq (k := .iff2) rfl

end Sys2Proof.Machine

/-! SUPPORT. The two widths, the halves of a pair, reset and creation (R20 to R24, R46, R47, R50 to R52). -/

namespace Sys2Proof.Machine

/-! ## Words and halves (R20, R21, R24) -/

theorem toNat_incWrap {w : Nat} (x : BitVec w) : (incWrap x).toNat = (x.toNat + 1) % 2 ^ w := by
  simp [incWrap]

theorem incWrap_decWrap {w : Nat} (x : BitVec w) : incWrap (decWrap x) = x := BitVec.sub_add_cancel x 1

theorem decWrap_incWrap {w : Nat} (x : BitVec w) : decWrap (incWrap x) = x := BitVec.add_sub_cancel x 1

/-- `x` is the increment of its decrement, so the decrement is `x - 1` modulo `2 ^ w`. -/
theorem toNat_decWrap {w : Nat} (x : BitVec w) : ((decWrap x).toNat : Int) = ((x.toNat : Int) - 1) % 2 ^ w := by
  have hlt : ((decWrap x).toNat : Int) < 2 ^ w := by exact_mod_cast (decWrap x).isLt
  have hx : (x.toNat : Int) = ((decWrap x).toNat + 1) % 2 ^ w := by
    have h := toNat_incWrap (decWrap x)
    rw [incWrap_decWrap] at h
    exact_mod_cast h
  rw [hx, Int.emod_sub_emod, Int.add_sub_cancel, Int.emod_eq_of_lt (Int.natCast_nonneg _) hlt]

/-- A Word is `hi * 256 + lo` (R6). -/
theorem toNat_eq_halves (w : Word) : w.toNat = (hi w).toNat * 256 + (lo w).toNat := by
  simp only [hi, lo, BitVec.extractLsb'_toNat, Nat.shiftRight_eq_div_pow]
  omega

/-- Bit `n` of a value is its `n`-th binary digit. -/
theorem getLsbD_iff_digit {w : Nat} (x : BitVec w) (n : Nat) : x.getLsbD n = true ↔ x.toNat / 2 ^ n % 2 = 1 := by
  rw [BitVec.getLsbD, Nat.testBit_eq_decide_div_mod_eq, decide_eq_true_iff]

/-- Settles O7, from the laws of all widths and the halves of a Word. -/
theorem wordsWrapAndSplit : Obligations.WordsWrapAndSplit :=
  ⟨fun x => ⟨toNat_incWrap x, toNat_decWrap x⟩, fun x => ⟨toNat_incWrap x, toNat_decWrap x⟩,
    fun x => ⟨incWrap_decWrap x, decWrap_incWrap x⟩, fun x => ⟨incWrap_decWrap x, decWrap_incWrap x⟩, rfl, rfl, rfl, rfl,
    fun w v => ⟨hi_withHi w v, lo_withHi w v, hi_withLo w v, lo_withLo w v⟩, toNat_eq_halves,
    fun x n => getLsbD_iff_digit x n, fun x n => getLsbD_iff_digit x n⟩

/-- Settles O8, by the laws of register writes. -/
theorem halvesAreIndependent : Obligations.HalvesAreIndependent := by
  refine ⟨fun s r v => ⟨r8_setR8_same s r v, fun x hx => r8_setR8_ne s v hx, f_setR8 s r v⟩,
    fun s v => ⟨f_setF s v, r8_setF s v⟩, fun s w => ⟨rfl, rfl, rfl, rfl, rfl, rfl, rfl, rfl⟩, fun s => ?_⟩
  simp [State.r8, State.f]

/-! ## Reset and creation -/

/-- Settles O40: the reset operation writes exactly the elements named (R350). -/
theorem resetReinitialisesTheBank : Obligations.ResetReinitialisesTheBank :=
  ⟨fun _ h => ⟨_, step_reset h, rfl⟩, fun _ => rfl⟩

/-- Settles O49, element by element. -/
theorem creationState : Obligations.CreationState :=
  ⟨rfl, rfl, rfl, rfl, rfl, rfl, rfl, rfl, rfl, rfl, rfl, rfl, rfl, rfl⟩

/-- Settles O51: the memory at creation is empty and the enables are clear. -/
theorem invHoldsAtReset : Obligations.InvHoldsAtReset := ⟨rfl, rfl, nofun, nofun⟩

end Sys2Proof.Machine

/-! SUPPORT. The Bus: one access at a time, and what a step's record says of memory and of the pending answers (20_memory.md sections 1,
2 and 6). -/

namespace Sys2Proof.Machine

/-! ## Octet and Word accesses (R61 to R68) -/

/-- Where nothing is pending for `a`, the first answer pending is the first of those made ready since. -/
theorem pendingAnswer_append_of_none {q : List (Word × Octet)} {a : Word} (h : pendingAnswer q a = none) (q' : List (Word × Octet)) :
    pendingAnswer (q ++ q') a = pendingAnswer q' a := by
  induction q with
  | nil => rfl
  | cons c q ih =>
    simp only [pendingAnswer, List.cons_append] at h ⊢
    split at h
    · cases h
    · simp [*]

/-- Where nothing is pending for `a`, a read of `a` takes from the answers made ready since. -/
theorem dropAnswer_append_of_none {q : List (Word × Octet)} {a : Word} (h : pendingAnswer q a = none) (q' : List (Word × Octet)) :
    dropAnswer (q ++ q') a = q ++ dropAnswer q' a := by
  induction q with
  | nil => rfl
  | cons c q ih =>
    simp only [pendingAnswer, dropAnswer, List.cons_append] at h ⊢
    split at h
    · cases h
    · simp [*]

/-- After two answers made ready for `a`, where none was pending, the next reads of `a` take them in order. -/
theorem busRead_supplied {s u : State} {a : Word} {v w : Octet} (h : pendingAnswer s.busAnswers a = none)
    (hu : u = { s with busAnswers := s.busAnswers ++ [(a, v), (a, w)] }) :
    (busRead a u).1 = v ∧ (busRead a (busRead a u).2).1 = w ∧ (busRead a (busRead a (busRead a u).2).2).1 = s.peek a := by
  subst hu
  simp [State.answer, peek_def, pendingAnswer_append_of_none h, dropAnswer_append_of_none h, pendingAnswer, dropAnswer, h]

/-- Settles O9, by the laws of one read, of the answers made ready for it, and of the two accesses to a Word. -/
theorem wordAccessIsLittleEndian : Obligations.WordAccessIsLittleEndian := by
  refine ⟨fun a s => ⟨rfl, fun b hb => answer_busRead_ne s hb⟩, fun a s hnone => ?_, fun a w s => ?_⟩
  · refine ⟨answer_of_none hnone, dropAnswer_of_none hnone, fun v w => ⟨_, rfl, ?_, busRead_supplied hnone ?_⟩⟩ <;>
      simp [applyMove]
  · refine ⟨fun hlo hhi => ?_, busReadWord_value a s, busReadWord_state a s, fun b => ?_, by simp [busWriteWord, busWrite]⟩
    · rw [busReadWord_value, answer_of_none (by simpa using hhi), answer_of_none (by simpa using hlo)]
      simp
    · rw [peek_busWriteWord]
      by_cases hb : b = a <;> simp [hb]

/-! ## Records that account for memory and the pending answers (R62, R63, R73, R76) -/

/-- From `s` to `t` the operations `ops` are recorded, and they account for the memory and the pending answers of `t`. -/
def Records (s t : State) (ops : List BusOp) : Prop :=
  t.trace = s.trace ++ ops ∧ replay s.mem s.busAnswers ops = some (t.mem, t.busAnswers)

theorem replay_append {m m' : Memory} {q q' : List (Word × Octet)} {xs : List BusOp} (ys : List BusOp)
    (h : replay m q xs = some (m', q')) : replay m q (xs ++ ys) = replay m' q' ys := by
  induction xs generalizing m q with
  | nil =>
    cases h
    rfl
  | cons op xs ih =>
    cases op with
    | read a v =>
      simp only [replay, List.cons_append] at h ⊢
      split at h
      · rw [if_pos ‹_›, ih h]
      · cases h
    | write a v => exact ih h
    | ack v => exact ih h

theorem Records.trans {s u t : State} {xs ys : List BusOp} (hx : Records s u xs) (hy : Records u t ys) :
    Records s t (xs ++ ys) := by
  obtain ⟨htrace, hreplay⟩ := hx
  obtain ⟨htrace', hreplay'⟩ := hy
  exact ⟨by rw [htrace', htrace, List.append_assoc], by rw [replay_append ys hreplay, hreplay']⟩

theorem records_busRead (a : Word) (s : State) : Records s (busRead a s).2 [.read a (s.answer a)] :=
  ⟨rfl, by simp [replay, State.answer, peek_def]⟩

/-- A Word read is two octet reads, low octet first; the first leaves what the second answers (R66). -/
theorem records_busReadWord (a : Word) (s : State) :
    Records s (busReadWord a s).2 [.read a (s.answer a), .read (a + 1) (s.answer (a + 1))] := by
  have h := (records_busRead a s).trans (records_busRead (a + 1) (busRead a s).2)
  rwa [answer_busRead_succ] at h

theorem records_enterHandler (d : Word) (n : BitVec 64) (s : State) :
    Records s (enterHandler d n s) [.write (s.sp - 2) (lo s.pc), .write (s.sp - 2 + 1) (hi s.pc)] := ⟨by simp, rfl⟩

/-- A replay lets an acknowledge pass: it touches neither memory nor the pending answers (R64). -/
theorem records_intAck (s : State) : Records s (intAck s).2 [.ack (intAck s).1] := by
  obtain ⟨v, rest, -, h⟩ | ⟨-, h⟩ := intAck_cases s <;> rw [h] <;> exact ⟨rfl, rfl⟩

/-! ## The operations of a form (20_memory.md section 7) -/

/-- The data reads of a form: the octets that the Bus answers at the addresses it loads from. -/
def Form.reads (f : Form) (s : State) : List BusOp := (loadsFrom f s).map fun a => .read a (s.answer a)

/-- The stores of a form: the octets that memory holds afterwards at the addresses it stores to. -/
def Form.writes (f : Form) (s : State) : List BusOp := (storesTo f s).map fun a => .write a ((f.run s).peek a)

/-- What the Bus answers to a read is what a replay of the read asks for. -/
theorem getD_pendingAnswer (s : State) (a : Word) : (pendingAnswer s.busAnswers a).getD (Memory.get s.mem a) = s.answer a := rfl

/-- A form records its loads, then its stores (R69), and they account for what it does to memory and the pending answers. -/
theorem records_run (f : Form) (s : State) : Records s (f.run s) (f.reads s ++ f.writes s) := by
  unfold Form.reads Form.writes
  cases f with
  | djnz | jrIf | jpIf =>
    simp only [run_djnz, run_jrIf, run_jpIf]
    split <;> exact ⟨by simp [loadsFrom, storesTo], rfl⟩
  | callIf cc | retIf cc =>
    by_cases hc : s.holds cc <;>
      constructor <;> simp [loadsFrom, storesTo, replay, hc, peek_def, getD_pendingAnswer, pendingAnswer_dropAnswer_ne]
  | alu _ src => cases src <;> constructor <;> simp [loadsFrom, storesTo, readSource, replay, getD_pendingAnswer]
  | _ => constructor <;> simp [loadsFrom, storesTo, replay, peek_def, getD_pendingAnswer, pendingAnswer_dropAnswer_ne]

/-! ## Reads before writes, and at most five operations (R69) -/

/-- The operation is a write: neither a read nor an acknowledge. -/
def BusOp.isWrite : BusOp → Bool
  | .write _ _ => true
  | .read _ _ | .ack _ => false

theorem readsBeforeWrites_of_writes {ys : List BusOp} (hy : ∀ o ∈ ys, o.isWrite = true) : readsBeforeWrites ys = true := by
  cases ys with
  | nil => rfl
  | cons o ys =>
    obtain ⟨ho, hys⟩ := List.forall_mem_cons.1 hy
    cases o with
    | read | ack => cases ho
    | write =>
      refine List.all_eq_true.2 fun o ho => ?_
      cases o with
      | write => rfl
      | read | ack => cases hys _ ho

theorem readsBeforeWrites_append {xs ys : List BusOp} (hx : ∀ o ∈ xs, o.isWrite = false) (hy : ∀ o ∈ ys, o.isWrite = true) :
    readsBeforeWrites (xs ++ ys) = true := by
  induction xs with
  | nil => exact readsBeforeWrites_of_writes hy
  | cons o xs ih =>
    obtain ⟨ho, hxs⟩ := List.forall_mem_cons.1 hx
    cases o with
    | write => cases ho
    | read | ack => exact ih hxs

/-- Every form but EX (SP),HL makes at most two data accesses. -/
theorem length_accesses {f : Form} (h : f ≠ .exStack) (s : State) : (f.reads s).length + (f.writes s).length ≤ 2 := by
  cases f with
  | exStack => exact absurd rfl h
  | callIf | retIf | alu =>
    simp only [Form.reads, Form.writes, loadsFrom, storesTo]
    split <;> simp
  | _ => simp [Form.reads, Form.writes, loadsFrom, storesTo]

/-- What a first byte fetches is encoded in as many bytes as its format has (R109): one evaluation per row of the dispatch table. -/
theorem encode_length_completeFetch (op : Octet) (s : State) :
    (encode (completeFetch op s).1).length = variantLength (dispatch op) := by
  refine forall_octet (P := fun op => (encode (completeFetch op s).1).length = variantLength (dispatch op)) (fun n => ?_) op
  fin_cases n <;> rfl

theorem variantLength_le (v : Variant) : variantLength v ≤ 3 := by cases v <;> simp [variantLength]

/-- EX (SP),HL makes four data accesses but is one byte long; every other form makes two at most, and is three bytes long at most. -/
theorem length_instruction (op : Octet) (s u : State) {f : Form} (hf : formOf (completeFetch op s).1 = f) :
    variantLength (dispatch op) + ((f.reads u).length + (f.writes u).length) ≤ 5 := by
  by_cases h : f = .exStack
  · have hlen : variantLength (dispatch op) = 1 := by
      rw [← encode_length_completeFetch op s, ← formOf_instr (completeFetch op s).1, hf, h]
      rfl
    rw [hlen, h]
    exact le_rfl
  · have haccesses := length_accesses h u
    have hbytes := variantLength_le (dispatch op)
    omega

/-- Completing a fetch records the reads of the immediates, as many as the format has (R94 to R96). -/
theorem records_completeFetch (op : Octet) (s : State) :
    ∃ ops, (∀ o ∈ ops, o.isWrite = false) ∧ ops.length + 1 = variantLength (dispatch op) ∧
      Records s (completeFetch op s).2 ops := by
  obtain ⟨i, hd, h⟩ | ⟨f, hd | hd, h⟩ | ⟨f, hd, h⟩ := completeFetch_cases op s <;> rw [hd, h]
  · exact ⟨[], by simp, rfl, by simp, rfl⟩
  · exact ⟨_, by simp [BusOp.isWrite], rfl, records_busRead _ s⟩
  · exact ⟨_, by simp [BusOp.isWrite], rfl, records_busRead _ s⟩
  · exact ⟨_, by simp [BusOp.isWrite], rfl, records_busReadWord _ s⟩

/-- From `s` to `t` at most `n` operations are recorded, no read or acknowledge after a write, and they account for memory and the
pending answers. -/
def Accounted (n : Nat) (s t : State) : Prop :=
  ∃ xs ys, (∀ o ∈ xs, o.isWrite = false) ∧ (∀ o ∈ ys, o.isWrite = true) ∧ xs.length + ys.length ≤ n ∧ Records s t (xs ++ ys)

/-- Reads and acknowledges before what is accounted for. -/
theorem Accounted.after {s u t : State} {xs : List BusOp} {n k : Nat} (ht : Accounted n u t) (hx : ∀ o ∈ xs, o.isWrite = false)
    (hu : Records s u xs) (hk : xs.length + n ≤ k) : Accounted k s t := by
  obtain ⟨xs', ys, hx', hy, hn, h⟩ := ht
  refine ⟨xs ++ xs', ys, ?_, hy, ?_, ?_⟩
  · exact fun o ho => (List.mem_append.1 ho).elim (hx o) (hx' o)
  · rw [List.length_append]
    omega
  · rw [List.append_assoc]
    exact hu.trans h

theorem Accounted.mono {s t : State} {n k : Nat} (h : Accounted n s t) (hk : n ≤ k) : Accounted k s t :=
  h.after (xs := []) (by simp) ⟨by simp, rfl⟩ (by simpa)

theorem accounted_run (f : Form) (s : State) : Accounted ((f.reads s).length + (f.writes s).length) s (f.run s) :=
  ⟨_, _, by simp [Form.reads, BusOp.isWrite], by simp [Form.writes, BusOp.isWrite], le_rfl, records_run f s⟩

theorem accounted_enterHandler (d : Word) (n : BitVec 64) (s : State) : Accounted 2 s (enterHandler d n s) :=
  ⟨[], _, by simp, by simp [BusOp.isWrite], le_rfl, records_enterHandler d n s⟩

/-- After its opcode an instruction makes at most four operations: the immediates are read, then its form runs. -/
theorem accounted_executeOpcode {op : Octet} {s t : State} (h : EndsIn (executeOpcode op s) t) : Accounted 4 s t := by
  obtain ⟨ops, hreads, hlen, hops⟩ := records_completeFetch op s
  obtain rfl : t = (formOf (completeFetch op s).1).run (completeFetch op s).2 := exec_form_endsIn (by rwa [formOf_instr])
  have hn := length_instruction op s (completeFetch op s).2 rfl
  exact (accounted_run _ _).after hreads hops (by omega)

/-- An accepted interrupt acknowledges once, then executes the octet (R306) or enters the handler (R307, R308). -/
theorem accounted_intStage {s t : State} (h : EndsIn (intStage s) t) : Accounted 5 s t := by
  have hack := records_intAck { s with iff1 := false, iff2 := false }
  unfold intStage at h
  split at h
  · obtain ⟨u, n, hu, rfl⟩ := surcharge_endsIn h
    exact (accounted_executeOpcode hu).after (by simp [BusOp.isWrite]) hack le_rfl
  all_goals
    obtain rfl := eq_of_endsIn_next h
    exact (accounted_enterHandler _ _ _).after (by simp [BusOp.isWrite]) hack (by simp)

/-- What a step records, one that faults included, stage by stage of R300. -/
theorem accounted_step {s t : State} (h : EndsIn (step s) t) : Accounted 5 (startStep s) t := by
  obtain ⟨-, e⟩ | ⟨-, -, e⟩ | ⟨-, -, -, e⟩ | ⟨-, -, -, e⟩ := step_cases s <;> rw [e] at h
  · obtain rfl := eq_of_endsIn_next h
    exact ⟨[], [], by simp, by simp, by simp, rfl, rfl⟩
  · obtain rfl := eq_of_endsIn_next h
    exact (accounted_enterHandler _ _ { startStep s with iff1 := false, nmiFF := false }).mono (by decide)
  · exact accounted_intStage h
  · exact (accounted_executeOpcode h).after (by simp [BusOp.isWrite]) (records_busRead s.pc { startStep s with eiFF := false }) le_rfl

/-- Settles O58: the record starts empty, so all of it is what the step's operations account for. -/
theorem busRecordExplainsMemory : Obligations.BusRecordExplainsMemory := by
  intro s t h
  obtain ⟨xs, ys, -, -, -, htrace, hreplay⟩ := accounted_step (.inl h)
  rwa [htrace]

/-- Settles O59: the record is the reads and acknowledges of the step, then its writes. -/
theorem readsComeBeforeWrites : Obligations.ReadsComeBeforeWrites := by
  intro s t h
  obtain ⟨xs, ys, hx, hy, hn, htrace, -⟩ := accounted_step (.inl h)
  rw [htrace, startStep_trace, List.nil_append]
  exact ⟨readsBeforeWrites_append hx hy, by rwa [List.length_append]⟩

end Sys2Proof.Machine

/-! SUPPORT. The encoding (30_encoding.md): the dispatch table against the encoder, the round trips, the bit patterns of R106, the length
that the first byte decides, and the fetch of an instruction in a step. -/

namespace Sys2Proof

/-! ## The dispatch table against the encoder (R91, R97, R106) -/

/-- The instruction of a table entry whose operand octets are those of `w`: an 8-bit operand is the low octet (R94 to R96). -/
def Variant.instr : Variant → Word → Instr
  | .op i, _ => i
  | .opN f, w | .opE f, w => f (lo w)
  | .opNN f, w => f w

/-- The operand octets that follow the first byte of a table entry, low octet first (R94 to R96). -/
def Variant.operands : Variant → Word → List Octet
  | .op _, _ => []
  | .opN _, w | .opE _, w => [lo w]
  | .opNN _, w => [lo w, hi w]

/-- The encoder inverts the table: one evaluation per row, for every operand. -/
theorem encode_dispatch (op : Octet) (w : Word) : encode ((dispatch op).instr w) = op :: (dispatch op).operands w := by
  refine forall_octet (P := fun op => encode ((dispatch op).instr w) = op :: (dispatch op).operands w) (fun n => ?_) op
  fin_cases n <;> rfl

/-- Every entry of the table is well formed: a sentinel stands in its own row (R107). -/
theorem wellFormed_dispatch (op : Octet) (w : Word) : wellFormed ((dispatch op).instr w) = true := by
  refine forall_octet (P := fun op => wellFormed ((dispatch op).instr w) = true) (fun n => ?_) op
  fin_cases n <;> rfl

/-- What the decoder accepts is a table entry's first byte with its operand octets. -/
theorem exists_operands_of_decode {bytes rest : List Octet} {i : Instr} (h : decode bytes = .ok (i, rest)) :
    ∃ op w, i = (dispatch op).instr w ∧ bytes = op :: (dispatch op).operands w ++ rest := by
  obtain ⟨op, hd, rfl⟩ | ⟨op, f, n, hd, rfl, rfl⟩ | ⟨op, f, l, k, hd, rfl, rfl⟩ := decode_cases h
  · exact ⟨op, 0, by simp [hd, Variant.instr, Variant.operands]⟩
  · obtain hd | hd := hd <;> exact ⟨op, mkWord 0 n, by simp [hd, Variant.instr, Variant.operands]⟩
  · exact ⟨op, mkWord k l, by simp [hd, Variant.instr, Variant.operands]⟩

/-- The decoder takes at least the first byte. -/
theorem length_rest_lt {bytes rest : List Octet} {i : Instr} (h : decode bytes = .ok (i, rest)) : rest.length < bytes.length := by
  obtain ⟨op, w, -, rfl⟩ := exists_operands_of_decode h
  simp

/-- Settles O2: the encoder inverts the table entry that the decoder took. -/
theorem encodeInvertsDecode : Obligations.EncodeInvertsDecode := by
  intro bytes rest i h
  obtain ⟨op, w, rfl, rfl⟩ := exists_operands_of_decode h
  exact ⟨wellFormed_dispatch op w, by rw [encode_dispatch]⟩

/-! ## The seven Illegal first bytes (R107) -/

theorem illegalByteOk_iff (op : Octet) : illegalByteOk op = true ↔
    op = 0x76 ∨ op = 0xCB ∨ op = 0xD3 ∨ op = 0xDB ∨ op = 0xDD ∨ op = 0xED ∨ op = 0xFD := by
  simp [illegalByteOk, illegalFirstBytes]

theorem dispatch_illegal {op : Octet} (h : illegalByteOk op = true) : dispatch op = .op (.illegal op) := by
  obtain rfl | rfl | rfl | rfl | rfl | rfl | rfl := (illegalByteOk_iff op).1 h <;> rfl

/-! ## The round trip from an instruction (R91, R97, R106) -/

/-- Format OP_nn with the halves of its operand (R96). -/
theorem decode_opNN_halves {op : Octet} {f : Word → Instr} (h : dispatch op = .opNN f) (nn : Word) (rest : List Octet) :
    decode (op :: lo nn :: hi nn :: rest) = .ok (f nn, rest) := by
  rw [decode_opNN h, mkWord_hi_lo]

/-- Settles O1, by the row of the table that an instruction's first byte selects. A 16-bit operand is rebuilt from its halves; for the other
instructions the decoder evaluates. -/
theorem decodeInvertsEncode : Obligations.DecodeInvertsEncode := by
  intro i rest hwf
  cases i with
  | illegal op => exact decode_op (dispatch_illegal hwf) rest
  | ld_BC_nn nn | ld_DE_nn nn | ld_HL_nn nn | ld_SP_nn nn | ld_mNN_HL nn | ld_HL_mNN nn | ld_mNN_A nn | ld_A_mNN nn
  | jp_nn nn | jp_NZ_nn nn | jp_Z_nn nn | jp_NC_nn nn | jp_C_nn nn | jp_PO_nn nn | jp_PE_nn nn | jp_P_nn nn | jp_M_nn nn
  | call_nn nn | call_NZ_nn nn | call_Z_nn nn | call_NC_nn nn | call_C_nn nn | call_PO_nn nn | call_PE_nn nn | call_P_nn nn
  | call_M_nn nn => exact decode_opNN_halves rfl nn rest
  | _ => rfl

/-- Settles O4: each word is the encoding of what it stands for. -/
theorem specWordsDecode : Obligations.SpecWordsDecode :=
  ⟨decodeInvertsEncode .nop [] rfl, decodeInvertsEncode .inc_B [] rfl, decodeInvertsEncode .dec_C [] rfl,
    decodeInvertsEncode (.jp_nn 0x1234) [] rfl, decodeInvertsEncode (.ld_B_n 0x2A) [] rfl,
    decodeInvertsEncode (.jr_NZ_e 0xFC) [] rfl, decodeInvertsEncode .ex_mSP_HL [] rfl, decodeInvertsEncode .cp_mHL [] rfl,
    decodeInvertsEncode (.illegal 0x76) [] rfl, rfl, rfl⟩

/-- A list that decodes to the sentinel starts with one of the seven octets; the sentinel carries it and the rest is handed back. -/
theorem of_decode_illegal {op b : Octet} {rest r : List Octet} (h : decode (op :: rest) = .ok (.illegal b, r)) :
    illegalByteOk op = true ∧ b = op ∧ r = rest := by
  obtain ⟨hwf, hbytes⟩ := encodeInvertsDecode _ _ _ h
  obtain ⟨rfl, hr⟩ := List.cons.inj hbytes
  exact ⟨hwf, rfl, hr⟩

/-- Settles O6: the sentinel is well formed and is encoded as its octet, so the two round trips say which lists decode to it. -/
theorem sevenFirstBytesAreIllegal : Obligations.SevenFirstBytesAreIllegal := by
  intro op rest
  rw [← illegalByteOk_iff]
  refine ⟨⟨?_, fun hop => ⟨op, rest, decodeInvertsEncode (.illegal op) rest hop⟩⟩, fun b r h => ?_⟩
  · rintro ⟨b, r, h⟩
    exact (of_decode_illegal h).1
  · obtain ⟨hop, hb, hr⟩ := of_decode_illegal h
    exact ⟨hb, hr, Machine.fetchesOne_of (dispatch_illegal hop)⟩

/-! ## The length of an instruction (R91, R109) -/

theorem one_le_variantLength (v : Variant) : 1 ≤ variantLength v := by cases v <;> simp [variantLength]

theorem decode_of_variantLength_le {op : Octet} {rest : List Octet} (h : variantLength (dispatch op) ≤ rest.length + 1) :
    ∃ i, decode (op :: rest) = .ok (i, (op :: rest).drop (variantLength (dispatch op))) := by
  cases hd : dispatch op with
  | op i => exact ⟨i, decode_op hd rest⟩
  | opN f | opE f =>
    obtain _ | ⟨n, rest⟩ := rest
    · simp [hd, variantLength] at h
    · exact ⟨f n, by simp [decode, hd, variantLength]⟩
  | opNN f =>
    obtain _ | ⟨l, _ | ⟨k, rest⟩⟩ := rest
    · simp [hd, variantLength] at h
    · simp [hd, variantLength] at h
    · exact ⟨f (mkWord k l), decode_opNN hd l k rest⟩

theorem decode_of_lt_variantLength {op : Octet} {rest : List Octet} (h : rest.length + 1 < variantLength (dispatch op)) :
    decode (op :: rest) = .error (.operandMissing op) := by
  cases hd : dispatch op with
  | op i => simp [hd, variantLength] at h
  | opN f | opE f =>
    obtain rfl : rest = [] := by simpa [hd, variantLength] using h
    simp [decode, hd]
  | opNN f =>
    obtain _ | ⟨l, _ | ⟨k, rest⟩⟩ := rest
    · simp [decode, hd]
    · simp [decode, hd]
    · simp only [hd, variantLength, List.length_cons] at h
      omega

/-- Settles O5, by the four formats of R91. -/
theorem lengthFollowsFirstByte : Obligations.LengthFollowsFirstByte := fun _ _ =>
  ⟨one_le_variantLength _, Machine.variantLength_le _, decode_of_variantLength_le, decode_of_lt_variantLength⟩

end Sys2Proof

namespace Sys2Proof.Machine

/-! ## The bit patterns of R106 -/

theorem encode_alu (op : AluOp) (src : AluSource) : encode (aluOf op src) = aluBytes op src := by
  cases src with
  | reg r => cases op <;> cases r <;> rfl
  | mHL | imm n => cases op <;> rfl

/-- The bytes of a form's instruction, line by line of R106: each value of the field codes (R100 to R105) is evaluated. -/
theorem encode_instr (f : Form) : encode f.instr = f.bytes := by
  cases f with
  | ldReg d r => cases d <;> cases r <;> rfl
  | alu op src => exact encode_alu op src
  | rst t => fin_cases t <;> rfl
  | jrIf x | ldPairImm x | addHL x | storeA x | loadA x | incPair x | decPair x | incReg x | decReg x | ldRegImm x | rotate x
  | ldRegMem x | storeReg x | retIf x | pop x | jpIf x | callIf x | push x => cases x <;> rfl
  | _ => rfl

/-- Settles O3. -/
theorem encodingsFollowTheBitPatterns : Obligations.EncodingsFollowTheBitPatterns :=
  ⟨encode_instr, fun i => ⟨formOf i, formOf_instr i⟩⟩

/-! ## The fetch of a decoded instruction (R93 to R96, R309) -/

/-- Completing the fetch of an opcode octet, in a step or after an acknowledge, reads the immediates that the decoder takes, and no more.
In `u` the Bus answers at PC + 1 and PC + 2 what it answers there in `s`. -/
theorem completeFetch_of_decode {op : Octet} {s u : State} {i : Instr} {rest : List Octet}
    (h : decode [op, s.answer (s.pc + 1), s.answer (s.pc + 1 + 1)] = .ok (i, rest)) (hpc : u.pc = s.pc)
    (hlow : u.answer (s.pc + 1) = s.answer (s.pc + 1)) (hhigh : u.answer (s.pc + 1 + 1) = s.answer (s.pc + 1 + 1)) :
    completeFetch op u = (i,
      { u with busAnswers := dropAnswers u.busAnswers (((fetchAddresses s).take (3 - rest.length)).drop 1),
               trace := u.trace ++ (fetchReads (3 - rest.length) s).drop 1 }) := by
  obtain ⟨op', hd, hb⟩ | ⟨op', f, n, hd, rfl, hb⟩ | ⟨op', f, l, k, hd, rfl, hb⟩ := decode_cases h <;> cases hb
  · simp [fetchesOne_of hd u, dropAnswers, fetchReads, fetchAddresses]
  · simp only [fetchesOctet_of hd u, hpc, hlow]
    rfl
  · simp only [fetchesWord_of hd u, hpc, hlow, hhigh]
    rfl

/-- Settles O39: the opcode fetch leaves what the Bus answers at PC + 1 and PC + 2, so completing it takes the octets of the window. -/
theorem stepRunsDecodedInstruction : Obligations.StepRunsDecodedInstruction := by
  intro s i rest hreset hnmi hint h
  have hfetch := completeFetch_of_decode (u := (busRead s.pc { startStep s with eiFF := false }).2) h rfl
    (answer_busRead_ne _ (word_succ_ne s.pc)) (answer_busRead_ne _ (by bv_omega))
  have hlength : rest.length < 3 := length_rest_lt h
  obtain ⟨n, hn⟩ : ∃ n, 3 - rest.length = n + 1 := ⟨2 - rest.length, by omega⟩
  rw [hn] at hfetch ⊢
  rw [step_instruction hreset hnmi hint, instructionStage]
  exact congrArg (fun r => exec r.1 r.2) hfetch

/-! ## A placed table word (log entry 9) -/

@[simp] theorem peek_placeByte (a b : Word) (v : Octet) (s : State) :
    (placeByte a v s).peek b = if b = a then v else s.peek b := by
  simp [peek_def]

@[simp] theorem pendingAnswer_placeByte (a b : Word) (v : Octet) (s : State) :
    pendingAnswer (placeByte a v s).busAnswers b = if b = a then none else pendingAnswer s.busAnswers b :=
  pendingAnswer_withdraw _ a b

/-- The Bus answers an octet placed, and elsewhere what it answered before. -/
@[simp] theorem answer_placeByte (a b : Word) (v : Octet) (s : State) :
    (placeByte a v s).answer b = if b = a then v else s.answer b := by
  rw [State.answer, pendingAnswer_placeByte, peek_placeByte]
  split <;> rfl

theorem placeByte_state (a : Word) (v : Octet) (s : State) :
    placeByte a v s = { s with mem := (placeByte a v s).mem, busAnswers := (placeByte a v s).busAnswers } := rfl

/-- Three octets placed at PC, PC + 1 and PC + 2, as `placeWord` places those of a table word. -/
def placeOctets (x y z : Octet) (s : State) : State :=
  placeByte (s.pc + 2) z (placeByte (s.pc + 1) y (placeByte s.pc x s))

/-- Placing a table word that decodes to `i` places three octets that do, and holds off every event. -/
theorem exists_octets_of_decodeTableWord {nbits w : Nat} {i : Instr} (s : State) (h : decodeTableWord nbits w = some i) :
    ∃ x y z rest, s.withFetchWord nbits w = noEventPending (placeOctets x y z s) ∧ decode [x, y, z] = .ok (i, rest) := by
  simp only [decodeTableWord] at h
  split at h
  · cases h
    refine ⟨_, _, _, _, ?_, ‹_›⟩
    simp only [State.withFetchWord, placeWord, placeOctets]
  · cases h

/-- Placing writes memory and the pending answers alone. -/
theorem placeOctets_state (x y z : Octet) (s : State) :
    ∃ m q, placeOctets x y z s = { s with mem := m, busAnswers := q } := by
  unfold placeOctets
  rw [placeByte_state (s.pc + 2), placeByte_state (s.pc + 1), placeByte_state s.pc x s]
  exact ⟨_, _, rfl⟩

theorem placeOctets_pc (x y z : Octet) (s : State) : (placeOctets x y z s).pc = s.pc := by simp [placeOctets]

theorem fetchAddresses_eq (s : State) : fetchAddresses s = [s.pc, s.pc + 1, s.pc + 2] := by
  rw [fetchAddresses, show s.pc + 1 + 1 = s.pc + 2 by bv_omega]

/-- The Bus answers the three octets placed. -/
theorem window_placeOctets (x y z : Octet) (s : State) : window (placeOctets x y z s) = [x, y, z] := by
  have h1 : s.pc + 1 ≠ s.pc + 2 := by bv_omega
  have h0 : s.pc ≠ s.pc + 2 := by bv_omega
  have h2 : s.pc + 1 + 1 = s.pc + 2 := by bv_omega
  rw [window, placeOctets_pc, h2]
  simp only [placeOctets, answer_placeByte, if_neg h0, if_neg h1, if_neg (succ_ne_self s.pc).symm, if_true]

/-- What is placed leaves memory and what is pending at every other address. -/
theorem placeOctets_ne (x y z : Octet) (s : State) {b : Word} (h0 : b ≠ s.pc) (h1 : b ≠ s.pc + 1) (h2 : b ≠ s.pc + 2) :
    (placeOctets x y z s).peek b = s.peek b ∧
    pendingAnswer (placeOctets x y z s).busAnswers b = pendingAnswer s.busAnswers b := by
  simp only [placeOctets, peek_placeByte, pendingAnswer_placeByte, if_neg h0, if_neg h1, if_neg h2, and_self]

/-- Reads of other addresses leave what is pending for an address. -/
theorem pendingAnswer_dropAnswers (q : List (Word × Octet)) {addrs : List Word} {b : Word} (h : b ∉ addrs) :
    pendingAnswer (dropAnswers q addrs) b = pendingAnswer q b := by
  induction addrs generalizing q with
  | nil => rfl
  | cons a addrs ih =>
    obtain ⟨hne, hnot⟩ := not_or.1 (mt List.mem_cons.2 h)
    exact (ih _ hnot).trans (pendingAnswer_dropAnswer_ne q hne)

/-- An INT that would be accepted is held off by EI_FF. -/
theorem intAccepted_noEventPending (s : State) : intAccepted (noEventPending s) = false := by
  simp only [intAccepted, noEventPending]
  cases s.intFF && s.iff1 <;> simp

/-- With every event held off, a step runs what the window decodes to. -/
theorem step_noEventPending {s : State} {i : Instr} {rest : List Octet} (h : decode (window s) = .ok (i, rest)) :
    step (noEventPending s) = exec i
      { s with resetReq := false, nmiFF := false, eiFF := false,
               busAnswers := dropAnswers s.busAnswers ((fetchAddresses s).take (3 - rest.length)),
               trace := fetchReads (3 - rest.length) s } :=
  stepRunsDecodedInstruction (noEventPending s) i rest rfl rfl (intAccepted_noEventPending s) h

/-- Settles O50: no event stands before the fetch, the window is the word, and neither placing nor fetching it touches another address. -/
theorem placedWordRunsNext : Obligations.PlacedWordRunsNext := by
  intro s nbits w i h
  obtain ⟨x, y, z, rest, hplaced, hdecode⟩ := exists_octets_of_decodeTableWord s h
  have hwindow := window_placeOctets x y z s
  have hother := fun b => placeOctets_ne x y z s (b := b)
  obtain ⟨m, q, hp⟩ := placeOctets_state x y z s
  rw [hp] at hplaced hwindow hother
  rw [← hwindow] at hdecode
  rw [hplaced]
  refine ⟨_, step_noEventPending hdecode, rfl, fun b h0 h1 h2 => ?_⟩
  obtain ⟨hpeek, hpending⟩ := hother b h0 h1 h2
  refine ⟨hpeek, (pendingAnswer_dropAnswers _ fun hb => ?_).trans hpending⟩
  have hmem := List.mem_of_mem_take hb
  rw [fetchAddresses_eq] at hmem
  simp only [List.mem_cons, h0, h1, h2, List.not_mem_nil, or_self] at hmem

end Sys2Proof.Machine

/-! SUPPORT. The flags engine (40_flags_engine.md): affections bit by bit, and the carry, overflow and parity predicates against exact
arithmetic. -/

namespace Sys2Proof.Machine

/-! ## Affections (R121 to R123) -/

/-- `Aff(mask, value)` gives the flags of the mask the bits of the value and leaves the others, bit by bit. -/
theorem applyAff_aff_bit (mask value f : Octet) (k : Nat) :
    (applyAff (aff mask value) f).getLsbD k = if mask.getLsbD k then value.getLsbD k else f.getLsbD k := by
  by_cases hk : k < 8
  · rw [applyAff_bit _ _ hk]
    simp only [aff, BitVec.getLsbD_and, BitVec.getLsbD_not, hk, decide_true, Bool.true_and]
    cases mask.getLsbD k <;> cases value.getLsbD k <;> simp
  · simp [BitVec.getLsbD_of_ge _ _ (not_lt.1 hk)]

theorem applyAff_aff (mask value f : Octet) : applyAff (aff mask value) f = (f &&& ~~~mask) ||| (value &&& mask) := by
  apply BitVec.eq_of_getLsbD_eq
  intro k hk
  simp only [applyAff_aff_bit, BitVec.getLsbD_or, BitVec.getLsbD_and, BitVec.getLsbD_not, hk, decide_true, Bool.true_and]
  cases mask.getLsbD k <;> simp

theorem aff_disjoint (mask value : Octet) : (aff mask value).set &&& (aff mask value).clear = 0 := by
  apply BitVec.eq_of_getLsbD_eq
  intro k hk
  simp only [aff, BitVec.getLsbD_and, BitVec.getLsbD_not]
  cases value.getLsbD k <;> simp

/-- An affection of all eight flags gives F its value. -/
theorem applyAff_aff_all (value f : Octet) : applyAff (aff 0xFF value) f = value := by
  rw [applyAff_aff, show (0xFF : Octet) = BitVec.allOnes 8 from rfl, BitVec.and_allOnes, BitVec.not_allOnes, BitVec.and_zero,
    BitVec.zero_or]

theorem bits_disjoint {x y : Octet} (h : x &&& y = 0) (k : Nat) : (x.getLsbD k && y.getLsbD k) = false := by
  rw [← BitVec.getLsbD_and, h]
  exact BitVec.getLsbD_zero

theorem overlay_set_bit (l r : Affection) {k : Nat} (hk : k < 8) :
    (overlay l r).set.getLsbD k = ((l.set.getLsbD k && !r.clear.getLsbD k) || r.set.getLsbD k) := by
  simp [overlay, hk]

theorem overlay_clear_bit (l r : Affection) {k : Nat} (hk : k < 8) :
    (overlay l r).clear.getLsbD k = ((l.clear.getLsbD k && !r.set.getLsbD k) || r.clear.getLsbD k) := by
  simp [overlay, hk]

/-- Two affections are equal where they force the same bits. -/
theorem affection_ext {x y : Affection} (hs : ∀ k < 8, x.set.getLsbD k = y.set.getLsbD k)
    (hc : ∀ k < 8, x.clear.getLsbD k = y.clear.getLsbD k) : x = y := by
  obtain ⟨s, c⟩ := x
  obtain ⟨s', c'⟩ := y
  rw [Affection.mk.injEq]
  exact ⟨BitVec.eq_of_getLsbD_eq hs, BitVec.eq_of_getLsbD_eq hc⟩

/-- Applying a composition is applying the left one and then the right one. -/
theorem applyAff_overlay (l r : Affection) (f : Octet) : applyAff (overlay l r) f = applyAff r (applyAff l f) := by
  apply BitVec.eq_of_getLsbD_eq
  intro k hk
  rw [applyAff_bit _ _ hk, applyAff_bit _ _ hk, applyAff_bit _ _ hk, overlay_set_bit l r hk, overlay_clear_bit l r hk]
  cases r.set.getLsbD k <;> cases r.clear.getLsbD k <;> simp

theorem overlay_assoc (l m r : Affection) : overlay (overlay l m) r = overlay l (overlay m r) := by
  apply affection_ext
  · intro k hk
    simp only [overlay_set_bit _ _ hk, overlay_clear_bit _ _ hk]
    cases r.set.getLsbD k <;> cases r.clear.getLsbD k <;> simp
  · intro k hk
    simp only [overlay_set_bit _ _ hk, overlay_clear_bit _ _ hk]
    cases r.set.getLsbD k <;> cases r.clear.getLsbD k <;> simp

section
variable {l r : Affection} (hl : l.set &&& l.clear = 0) (hr : r.set &&& r.clear = 0)
include hr

theorem overlay_set_agrees : (overlay l r).set &&& (r.set ||| r.clear) = r.set := by
  apply BitVec.eq_of_getLsbD_eq
  intro k hk
  have hrk := bits_disjoint hr k
  rw [BitVec.getLsbD_and, BitVec.getLsbD_or, overlay_set_bit l r hk]
  cases hs : r.set.getLsbD k <;> simp_all

theorem overlay_clear_agrees : (overlay l r).clear &&& (r.set ||| r.clear) = r.clear := by
  apply BitVec.eq_of_getLsbD_eq
  intro k hk
  have hrk := bits_disjoint hr k
  rw [BitVec.getLsbD_and, BitVec.getLsbD_or, overlay_clear_bit l r hk]
  cases hs : r.set.getLsbD k <;> simp_all

include hl

theorem overlay_disjoint : (overlay l r).set &&& (overlay l r).clear = 0 := by
  apply BitVec.eq_of_getLsbD_eq
  intro k hk
  have hlk := bits_disjoint hl k
  have hrk := bits_disjoint hr k
  rw [BitVec.getLsbD_and, overlay_set_bit l r hk, overlay_clear_bit l r hk]
  cases hs : r.set.getLsbD k <;> cases hc : l.set.getLsbD k <;> simp_all
end

theorem aff_zero_overlay (x : Affection) : overlay (aff 0 0) x = x := by simp [overlay, aff]

theorem overlay_aff_zero (x : Affection) : overlay x (aff 0 0) = x := by
  apply affection_ext
  · intro k hk
    simp [overlay_set_bit _ _ hk, aff]
  · intro k hk
    simp [overlay_clear_bit _ _ hk, aff]

/-- Settles O12, by the laws of `aff` and `overlay`; only those that name the right one's flags need disjoint masks. -/
theorem affectionsComposeRightBiased : Obligations.AffectionsComposeRightBiased :=
  ⟨fun mask value f => ⟨applyAff_aff mask value f, aff_disjoint mask value⟩,
    fun l r hl hr => ⟨applyAff_overlay l r, overlay_disjoint hl hr, overlay_set_agrees hr, overlay_clear_agrees hr⟩,
    overlay_assoc, fun x => ⟨aff_zero_overlay x, overlay_aff_zero x⟩⟩

/-! ## Carry and borrow (R124) -/

/-- A carry leaves less than a summand and the carry-in. -/
theorem carry_iff_mod_lt {m x y : Nat} (hx : x < m) (hy : y < m) (cin : Bool) :
    m ≤ x + y + cin.toNat ↔ (x + y + cin.toNat) % m < x + cin.toNat := by
  have hcin := cin.toNat_le
  by_cases h : m ≤ x + y + cin.toNat
  · rw [Nat.mod_eq_sub_mod h, Nat.mod_eq_of_lt (by omega)]
    omega
  · rw [Nat.mod_eq_of_lt (by omega)]
    omega

/-- Strict without a carry-in and non-strict with one (R124) is strict against the operand and the carry-in. -/
theorem carryAdd_iff_lt {w : Nat} (a res mask : BitVec w) (cin : Bool) :
    carryAdd a res mask cin = true ↔ (res &&& mask).toNat < (a &&& mask).toNat + cin.toNat := by
  cases cin
  · exact BitVec.ult_iff_lt
  · exact BitVec.ule_iff_le.trans Nat.lt_succ_iff.symm

theorem toNat_and_lowMask {w j : Nat} {mask : BitVec w} (hmask : mask.toNat = 2 ^ j - 1) (x : BitVec w) :
    (x &&& mask).toNat = x.toNat % 2 ^ j := by
  rw [BitVec.toNat_and, hmask, Nat.and_two_pow_sub_one_eq_mod]

/-- The low `j` bits of a sum are the sum of the low `j` bits. -/
theorem sum_mod_low {w j a b c r : Nat} (hj : j ≤ w) (hr : r = (a + b + c) % 2 ^ w) :
    r % 2 ^ j = (a % 2 ^ j + b % 2 ^ j + c) % 2 ^ j := by
  rw [hr, Nat.mod_mod_of_dvd _ (pow_dvd_pow 2 hj)]
  exact (((Nat.mod_modEq a _).add (Nat.mod_modEq b _)).add_right c).symm

/-- `CarryAdd` is the carry out of the low `j` bits, at every width. -/
theorem carryAdd_iff {w j : Nat} {a b res mask : BitVec w} {cin : Bool} (hj : j ≤ w) (hmask : mask.toNat = 2 ^ j - 1)
    (hres : res.toNat = (a.toNat + b.toNat + cin.toNat) % 2 ^ w) :
    carryAdd a res mask cin = true ↔ 2 ^ j ≤ a.toNat % 2 ^ j + b.toNat % 2 ^ j + cin.toNat := by
  have hpos : 0 < 2 ^ j := Nat.two_pow_pos j
  rw [carry_iff_mod_lt (Nat.mod_lt _ hpos) (Nat.mod_lt _ hpos), ← sum_mod_low hj hres, carryAdd_iff_lt,
    toNat_and_lowMask hmask, toNat_and_lowMask hmask]

/-- A borrow of `a - b` is a carry of the sum `res + b` that gives `a` back. -/
theorem borrowSub_eq_carryAdd {w : Nat} (a res mask : BitVec w) (cin : Bool) :
    borrowSub a res mask cin = carryAdd res a mask cin := rfl

/-- `BorrowSub` is the borrow into the low `j` bits, at every width. -/
theorem borrowSub_iff {w j : Nat} {a b res mask : BitVec w} {cin : Bool} (hj : j ≤ w) (hmask : mask.toNat = 2 ^ j - 1)
    (hback : a.toNat = (res.toNat + b.toNat + cin.toNat) % 2 ^ w) :
    borrowSub a res mask cin = true ↔ a.toNat % 2 ^ j < b.toNat % 2 ^ j + cin.toNat := by
  have hpos : 0 < 2 ^ j := Nat.two_pow_pos j
  rw [borrowSub_eq_carryAdd, carryAdd_iff hj hmask hback, Nat.add_comm (_ % _),
    carry_iff_mod_lt (Nat.mod_lt _ hpos) (Nat.mod_lt _ hpos), Nat.add_comm (_ % _) (_ % _), ← sum_mod_low hj hback]

/-! ## Overflow and underflow (R125) -/

/-- The mask 0x80 picks the sign. -/
theorem and_signMask_ne_zero (x : Octet) : (x &&& 0x80 != 0) = x.msb := by
  rw [show (0x80 : Octet) = BitVec.twoPow 8 7 from rfl, BitVec.and_twoPow, show x.msb = x.getLsbD 7 from rfl]
  cases x.getLsbD 7 <;> rfl

theorem msb_iff (x : Octet) : x.msb = true ↔ 128 ≤ x.toNat := by simp [BitVec.msb_eq_decide]

/-- An octet with the sign set is read as 256 less than its unsigned value. -/
theorem toInt_cases (x : Octet) :
    (x.toNat < 128 ∧ x.toInt = x.toNat) ∨ (128 ≤ x.toNat ∧ x.toInt = (x.toNat : Int) - 256) := by
  rw [BitVec.toInt_eq_msb_cond]
  by_cases h : 128 ≤ x.toNat
  · exact .inr ⟨h, if_pos ((msb_iff x).2 h)⟩
  · exact .inl ⟨Nat.lt_of_not_le h, if_neg (mt (msb_iff x).1 h)⟩

/-- An addition overflows where the operands have one sign and the result the other (R125). -/
theorem overflowAdd_iff_signs (a b res : Octet) :
    overflowAdd a b res = true ↔ (128 ≤ a.toNat ↔ 128 ≤ b.toNat) ∧ ¬(128 ≤ b.toNat ↔ 128 ≤ res.toNat) := by
  rw [overflowAdd, and_signMask_ne_zero, ← msb_iff, ← msb_iff, ← msb_iff, BitVec.msb_and, BitVec.msb_xor, BitVec.msb_xor,
    BitVec.msb_xor]
  cases a.msb <;> cases b.msb <;> cases res.msb <;> decide

/-- A subtraction underflows where the operands differ in sign and the result does not have that of the first (R125). -/
theorem underflowSub_iff_signs (a b res : Octet) :
    underflowSub a b res = true ↔ ¬(128 ≤ a.toNat ↔ 128 ≤ b.toNat) ∧ ¬(128 ≤ a.toNat ↔ 128 ≤ res.toNat) := by
  rw [underflowSub, and_signMask_ne_zero, ← msb_iff, ← msb_iff, ← msb_iff, BitVec.msb_and, BitVec.msb_xor, BitVec.msb_xor]
  cases a.msb <;> cases b.msb <;> cases res.msb <;> decide

theorem overflowAdd_iff {a b res : Octet} {cin : Bool} (hres : res.toNat = (a.toNat + b.toNat + cin.toNat) % 256) :
    overflowAdd a b res = true ↔
      a.toInt + b.toInt + cin.toNat < -128 ∨ 127 < a.toInt + b.toInt + cin.toNat := by
  have hcin := cin.toNat_le
  have ha := toInt_cases a
  have hb := toInt_cases b
  rw [overflowAdd_iff_signs]
  omega

theorem underflowSub_iff {a b res : Octet} {cin : Bool} (hback : a.toNat = (res.toNat + b.toNat + cin.toNat) % 256) :
    underflowSub a b res = true ↔
      a.toInt - b.toInt - cin.toNat < -128 ∨ 127 < a.toInt - b.toInt - cin.toNat := by
  have hcin := cin.toNat_le
  have ha := toInt_cases a
  have hb := toInt_cases b
  rw [underflowSub_iff_signs]
  omega

/-! ## The flags of Add8 and Sub8 (R126 to R129) -/

/-- F as the tables of R127 and R128 fill it: the intrinsic bits of the result, and H, PV, N and C. -/
def packFlags (res : Octet) (h p n c : Bool) : Octet :=
  intrinsicBits res ||| flagIf h maskH ||| flagIf p maskPV ||| flagIf n maskN ||| flagIf c maskC

theorem flagIf_bit (b : Bool) (mask : Octet) (k : Nat) : (flagIf b mask).getLsbD k = (b && mask.getLsbD k) := by
  cases b <;> simp [flagIf]

theorem intrinsicBits_bit (v : Octet) (k : Nat) :
    (intrinsicBits v).getLsbD k = ((v.getLsbD k && (0xA8 : Octet).getLsbD k) || ((v == 0) && maskZ.getLsbD k)) := by
  rw [intrinsicBits, BitVec.getLsbD_or, BitVec.getLsbD_and, flagIf_bit]

/-- The flags of a packed F, from bit 7 down (R27). -/
theorem packFlags_bits (res : Octet) (h p n c : Bool) :
    (packFlags res h p n c).getLsbD 7 = res.getLsbD 7 ∧ (packFlags res h p n c).getLsbD 6 = (res == 0) ∧
    (packFlags res h p n c).getLsbD 5 = res.getLsbD 5 ∧ (packFlags res h p n c).getLsbD 4 = h ∧
    (packFlags res h p n c).getLsbD 3 = res.getLsbD 3 ∧ (packFlags res h p n c).getLsbD 2 = p ∧
    (packFlags res h p n c).getLsbD 1 = n ∧ (packFlags res h p n c).getLsbD 0 = c := by
  simp only [packFlags, BitVec.getLsbD_or, flagIf_bit, intrinsicBits_bit]
  simp [maskZ, maskH, maskPV, maskN, maskC]

theorem applyAff_add8 (a b f : Octet) (cin : Bool) :
    applyAff (add8 a b cin).2 f =
      packFlags (add8 a b cin).1 (carryAdd a (add8 a b cin).1 0x0F cin) (overflowAdd a b (add8 a b cin).1) false
        (carryAdd a (add8 a b cin).1 0xFF cin) := by
  refine (applyAff_aff_all _ f).trans ?_
  rw [packFlags, show flagIf false maskN = 0#8 from rfl, BitVec.or_zero]
  rfl

theorem applyAff_sub8 (a b f : Octet) (cin : Bool) :
    applyAff (sub8 a b cin).2 f =
      packFlags (sub8 a b cin).1 (borrowSub a (sub8 a b cin).1 0x0F cin) (underflowSub a b (sub8 a b cin).1) true
        (borrowSub a (sub8 a b cin).1 0xFF cin) :=
  applyAff_aff_all _ f

theorem toNat_bitOf (b : Bool) : (bitOf b).toNat = b.toNat := by cases b <;> rfl

theorem toNat_add8 (a b : Octet) (cin : Bool) : (add8 a b cin).1.toNat = (a.toNat + b.toNat + cin.toNat) % 256 := by
  simp [add8, toNat_bitOf]

/-- The difference with the borrow, added to the operand and the borrow, gives the first operand back. -/
theorem toNat_sub8_add_back (a b : Octet) (cin : Bool) :
    a.toNat = ((sub8 a b cin).1.toNat + b.toNat + cin.toNat) % 256 := by
  have hback : (sub8 a b cin).1 + bitOf cin + b = a := by simp [sub8]
  calc a.toNat = ((sub8 a b cin).1 + bitOf cin + b).toNat := by rw [hback]
    _ = ((sub8 a b cin).1.toNat + b.toNat + cin.toNat) % 256 := by
      simp [toNat_bitOf, Nat.add_right_comm]

/-- Settles O13: F is the packed flags, and each predicate is exact. -/
theorem addFlagsAreExact : Obligations.AddFlagsAreExact := by
  intro a b f cin
  have hres := toNat_add8 a b cin
  have ha := a.isLt
  have hb := b.isLt
  rw [applyAff_add8]
  obtain ⟨hS, hZ, hF5, hH, hF3, hPV, hN, hC⟩ := packFlags_bits (add8 a b cin).1 (carryAdd a (add8 a b cin).1 0x0F cin)
    (overflowAdd a b (add8 a b cin).1) false (carryAdd a (add8 a b cin).1 0xFF cin)
  rw [hS, hZ, hF5, hH, hF3, hPV, hN, hC]
  refine ⟨hres, rfl, beq_iff_eq, rfl, ?_, rfl, overflowAdd_iff hres, rfl, ?_⟩
  · exact (carryAdd_iff (j := 4) (by decide) rfl hres).trans (by omega)
  · exact (carryAdd_iff (j := 8) (by decide) rfl hres).trans (by omega)

/-- Settles O14: F is the packed flags, each predicate is exact, and `Cp8` lays F5 and F3 of the operand over them. -/
theorem subAndCompareFlagsAreExact : Obligations.SubAndCompareFlagsAreExact := by
  intro a b f cin
  have hback := toNat_sub8_add_back a b cin
  have ha := a.isLt
  have hb := b.isLt
  have hlt := (sub8 a b cin).1.isLt
  have hcin := cin.toNat_le
  rw [applyAff_sub8]
  obtain ⟨hS, hZ, hF5, hH, hF3, hPV, hN, hC⟩ := packFlags_bits (sub8 a b cin).1 (borrowSub a (sub8 a b cin).1 0x0F cin)
    (underflowSub a b (sub8 a b cin).1) true (borrowSub a (sub8 a b cin).1 0xFF cin)
  rw [hS, hZ, hF5, hH, hF3, hPV, hN, hC]
  refine ⟨by omega, rfl, beq_iff_eq, rfl, ?_, rfl, underflowSub_iff hback, rfl, ?_, ?_⟩
  · exact (borrowSub_iff (j := 4) (by decide) rfl hback).trans (by omega)
  · exact (borrowSub_iff (j := 8) (by decide) rfl hback).trans (by omega)
  · rw [cp8, applyAff_overlay, applyAff_aff, BitVec.and_assoc]
    rfl

/-! ## Inc8 and Dec8 (R130, R131) -/

theorem set_aff_all (value : Octet) : (aff 0xFF value).set = value := by
  rw [aff, show (0xFF : Octet) = BitVec.allOnes 8 from rfl, BitVec.and_allOnes]

/-- Restricting an affection of all flags to those of a mask keeps the others. -/
theorem applyAff_aff_restrict (mask value f : Octet) :
    applyAff (aff mask (aff 0xFF value).set) f = (applyAff (aff 0xFF value) f &&& mask) ||| (f &&& ~~~mask) := by
  rw [applyAff_aff, applyAff_aff_all, set_aff_all, BitVec.or_comm]

/-- INC and DEC leave the flags of the mask 0xFE to ADD and SUB. -/
theorem applyAff_aff_restrict_bit {mask : Octet} {k : Nat} (hk : mask.getLsbD k = true) (value f : Octet) :
    (applyAff (aff mask (aff 0xFF value).set) f).getLsbD k = (applyAff (aff 0xFF value) f).getLsbD k := by
  rw [applyAff_aff_bit, if_pos hk, applyAff_aff_all, set_aff_all]

theorem inc8_bit {k : Nat} (hk : (0xFE : Octet).getLsbD k = true) (a f : Octet) :
    (applyAff (inc8 a).2 f).getLsbD k = (applyAff (add8 a 1 false).2 f).getLsbD k :=
  applyAff_aff_restrict_bit hk _ f

theorem dec8_bit {k : Nat} (hk : (0xFE : Octet).getLsbD k = true) (a f : Octet) :
    (applyAff (dec8 a).2 f).getLsbD k = (applyAff (sub8 a 1 false).2 f).getLsbD k :=
  applyAff_aff_restrict_bit hk _ f

theorem octet_one_toNat : (1 : Octet).toNat = 1 := rfl

theorem octet_one_toInt : (1 : Octet).toInt = 1 := rfl

theorem inc8_flags (a f : Octet) :
    (inc8 a).1 = a + 1 ∧ applyAff (inc8 a).2 f = (applyAff (add8 a 1 false).2 f &&& 0xFE) ||| (f &&& 0x01) ∧
    ((applyAff (inc8 a).2 f).getLsbD 4 = true ↔ a.toNat % 16 = 15) ∧
    ((applyAff (inc8 a).2 f).getLsbD 2 = true ↔ a = 0x7F) ∧
    ((applyAff (inc8 a).2 f).getLsbD 6 = true ↔ a = 0xFF) ∧ (applyAff (inc8 a).2 f).getLsbD 1 = false := by
  obtain ⟨-, -, hZ, -, hH, -, hPV, hN, -⟩ := addFlagsAreExact a 1 f false
  have hres : (add8 a 1 false).1 = a + 1 := BitVec.add_zero _
  rw [inc8_bit (k := 4) rfl, inc8_bit (k := 2) rfl, inc8_bit (k := 6) rfl, inc8_bit (k := 1) rfl]
  refine ⟨hres, applyAff_aff_restrict _ _ f, hH.trans ?_, hPV.trans ?_, hZ.trans ?_, hN⟩
  · simp only [octet_one_toNat, Bool.toNat_false]
    omega
  · have ha := toInt_cases a
    have heq : a = 0x7F ↔ a.toNat = 127 := BitVec.toNat_inj.symm
    simp only [octet_one_toInt, Bool.toNat_false, heq]
    omega
  · rw [hres]
    bv_omega

theorem dec8_flags (a f : Octet) :
    (dec8 a).1 = a - 1 ∧ applyAff (dec8 a).2 f = (applyAff (sub8 a 1 false).2 f &&& 0xFE) ||| (f &&& 0x01) ∧
    ((applyAff (dec8 a).2 f).getLsbD 4 = true ↔ a.toNat % 16 = 0) ∧
    ((applyAff (dec8 a).2 f).getLsbD 2 = true ↔ a = 0x80) ∧
    ((applyAff (dec8 a).2 f).getLsbD 6 = true ↔ a = 0x01) ∧ (applyAff (dec8 a).2 f).getLsbD 1 = true := by
  obtain ⟨-, -, hZ, -, hH, -, hPV, hN, -⟩ := subAndCompareFlagsAreExact a 1 f false
  have hres : (sub8 a 1 false).1 = a - 1 := BitVec.sub_zero _
  rw [dec8_bit (k := 4) rfl, dec8_bit (k := 2) rfl, dec8_bit (k := 6) rfl, dec8_bit (k := 1) rfl]
  refine ⟨hres, applyAff_aff_restrict _ _ f, hH.trans ?_, hPV.trans ?_, hZ.trans ?_, hN⟩
  · simp only [octet_one_toNat, Bool.toNat_false]
    omega
  · have ha := toInt_cases a
    have heq : a = 0x80 ↔ a.toNat = 128 := BitVec.toNat_inj.symm
    simp only [octet_one_toInt, Bool.toNat_false, heq]
    omega
  · rw [hres]
    bv_omega

/-- Settles O15, from the exact flags of ADD(a, 1) and SUB(a, 1). -/
theorem incDecFlagsKeepCarry : Obligations.IncDecFlagsKeepCarry := by
  intro a f
  simpa only [and_assoc] using And.intro (inc8_flags a f) (dec8_flags a f)

/-! ## The intrinsic flags, AND, OR / XOR and the accumulator rotates (R126, R132 to R134) -/

/-- A count is even when the exclusive or of what it counts is false. -/
theorem countP_even_iff {α : Type} (p : α → Bool) (l : List α) :
    l.countP p % 2 = 0 ↔ l.foldr (fun x b => p x ^^ b) false = false := by
  induction l with
  | nil => simp
  | cons x l ih =>
    rw [List.countP_cons, List.foldr_cons]
    cases hx : p x
    · simpa using ih
    · simp only [if_true, Bool.true_xor, Bool.not_eq_false', ← Bool.not_eq_false, ← ih]
      omega

/-- `Parity(v)` is an even number of 1 bits (R125). -/
theorem parity_iff (v : Octet) : parity v = true ↔ onesCount v % 2 = 0 := by
  rw [onesCount, countP_even_iff]
  simp [List.range_succ, parity]

theorem flagIf_eq_ite {b : Bool} {P : Prop} [Decidable P] (h : b = true ↔ P) (mask : Octet) :
    flagIf b mask = if P then mask else 0 := by
  simp only [flagIf, h]

theorem intrinsicBits_eq (v : Octet) : intrinsicBits v = (v &&& 0xA8) ||| (if v = 0 then 0x40 else 0) := by
  rw [intrinsicBits, flagIf_eq_ite beq_iff_eq]
  rfl

/-- The intrinsic bits are flags of the mask 0xE8. -/
theorem intrinsicBits_and_mask (v : Octet) : intrinsicBits v &&& 0xE8 = intrinsicBits v := by
  have hZ : flagIf (v == 0) maskZ &&& 0xE8 = flagIf (v == 0) maskZ := by cases v == 0 <;> rfl
  rw [intrinsicBits, BitVec.and_or_distrib_right, BitVec.and_assoc, hZ]
  rfl

theorem applyAff_intrinsic (v f : Octet) : applyAff (intrinsic v) f = (f &&& 0x17) ||| intrinsicBits v := by
  rw [intrinsic, applyAff_aff, intrinsicBits_and_mask]
  rfl

/-- `Intrinsic(v)` with H, PV, N and C given beside it fills F. -/
theorem applyAff_intrinsic_overlay (v value f : Octet) :
    applyAff (overlay (intrinsic v) (aff 0x17 value)) f = intrinsicBits v ||| (value &&& 0x17) := by
  have hnone : f &&& 0x17 &&& 0xE8 = 0#8 := by
    rw [BitVec.and_assoc]
    exact BitVec.and_zero
  rw [applyAff_overlay, applyAff_aff, applyAff_intrinsic, show (~~~0x17 : Octet) = 0xE8 from rfl, BitVec.and_or_distrib_right,
    hnone, intrinsicBits_and_mask, BitVec.zero_or]

theorem applyAff_orXorFlags (v f : Octet) :
    applyAff (orXorFlags v) f = intrinsicBits v ||| flagIf (parity v) maskPV := by
  rw [orXorFlags, applyAff_intrinsic_overlay]
  cases parity v <;> rfl

theorem applyAff_andFlags (v f : Octet) :
    applyAff (andFlags v) f = intrinsicBits v ||| 0x10 ||| flagIf (parity v) maskPV := by
  rw [andFlags, applyAff_intrinsic_overlay, BitVec.or_assoc]
  cases parity v <;> rfl

theorem applyAff_rotAFlags (v f : Octet) : applyAff (rotAFlags v) f = (f &&& 0xC5) ||| (v &&& 0x28) := by
  rw [rotAFlags, applyAff_aff, BitVec.and_assoc]
  rfl

/-- Settles O16: each table by its value, with Z and PV read as conditions on the result. -/
theorem logicAndRotateFlags : Obligations.LogicAndRotateFlags := by
  intro v f
  have hPV : flagIf (parity v) maskPV = if onesCount v % 2 = 0 then 0x04 else 0 := flagIf_eq_ite (parity_iff v) _
  rw [applyAff_intrinsic, applyAff_andFlags, applyAff_orXorFlags, intrinsicBits_eq, hPV, BitVec.or_assoc (f &&& 0x17)]
  exact ⟨rfl, rfl, rfl, applyAff_rotAFlags v f⟩

/-! ## Add16 (R135) -/

theorem hi_bit (w : Word) {k : Nat} (hk : k < 8) : (hi w).getLsbD k = w.getLsbD (8 + k) := by
  simp only [hi, BitVec.getLsbD_extractLsb', hk, decide_true, Bool.true_and]

/-- A flag that ADD HL,ss touches. -/
theorem add16_bit {k : Nat} (hk : (0x3B : Octet).getLsbD k = true) (a b : Word) (f : Octet) :
    (applyAff (add16 a b).2 f).getLsbD k =
      (((hi (a + b)).getLsbD k && (0x28 : Octet).getLsbD k || (carryAdd a (a + b) 0x0FFF false && maskH.getLsbD k)) ||
        (carryAdd a (a + b) 0xFFFF false && maskC.getLsbD k)) := by
  rw [add16, applyAff_aff_bit, if_pos hk, BitVec.getLsbD_or, BitVec.getLsbD_or, BitVec.getLsbD_and, flagIf_bit, flagIf_bit]

theorem toNat_add16 (a b : Word) : (add16 a b).1.toNat = (a.toNat + b.toNat) % 65536 := BitVec.toNat_add a b

theorem add16_touched_bits (a b : Word) (f : Octet) :
    (applyAff (add16 a b).2 f).getLsbD 5 = (add16 a b).1.getLsbD 13 ∧
    (applyAff (add16 a b).2 f).getLsbD 4 = carryAdd a (add16 a b).1 0x0FFF false ∧
    (applyAff (add16 a b).2 f).getLsbD 3 = (add16 a b).1.getLsbD 11 ∧
    (applyAff (add16 a b).2 f).getLsbD 1 = false ∧
    (applyAff (add16 a b).2 f).getLsbD 0 = carryAdd a (add16 a b).1 0xFFFF false := by
  rw [add16_bit (k := 5) rfl, add16_bit (k := 4) rfl, add16_bit (k := 3) rfl, add16_bit (k := 1) rfl, add16_bit (k := 0) rfl,
    hi_bit _ (by decide), hi_bit _ (by decide), hi_bit _ (by decide), hi_bit _ (by decide), hi_bit _ (by decide)]
  simp [add16, maskH, maskC]

/-- Settles O17: the two carries are exact, and the rest is outside the table. -/
theorem wordAddFlagsAreExact : Obligations.WordAddFlagsAreExact := by
  intro a b f
  have hres := toNat_add16 a b
  have ha := a.isLt
  have hb := b.isLt
  obtain ⟨hF5, hH, hF3, hN, hC⟩ := add16_touched_bits a b f
  rw [hF5, hH, hF3, hN, hC]
  refine ⟨hres, ?_, ?_, rfl, rfl, rfl, applyAff_keeps f (by rw [add16_touches]; rfl)⟩
  · exact (carryAdd_iff (b := b) (j := 12) (by decide) rfl hres).trans (by rw [Bool.toNat_false]; omega)
  · exact (carryAdd_iff (b := b) (j := 16) (by decide) rfl hres).trans (by rw [Bool.toNat_false]; omega)

end Sys2Proof.Machine

/-! SUPPORT. Loads, the stack and exchanges (R160 to R180): the shape of the state that each of these instructions ends in, with its result and
frame said once for all instructions of the shape. -/

namespace Sys2Proof.Machine

/-! ## Register writes: what they leave (R24) -/

theorem setR8_state (s : State) (r : Reg8) (v : Octet) : s.setR8 r v =
    { s with af := (s.setR8 r v).af, bc := (s.setR8 r v).bc, de := (s.setR8 r v).de, hl := (s.setR8 r v).hl } := by
  cases r <;> rfl

theorem setR16_state (s : State) (p : Pair) (w : Word) : s.setR16 p w =
    { s with bc := (s.setR16 p w).bc, de := (s.setR16 p w).de, hl := (s.setR16 p w).hl, sp := (s.setR16 p w).sp } := by
  cases p <;> rfl

theorem setRqq_state (s : State) (q : StackPair) (w : Word) : s.setRqq q w =
    { s with af := (s.setRqq q w).af, bc := (s.setRqq q w).bc, de := (s.setRqq q w).de, hl := (s.setRqq q w).hl } := by
  cases q <;> rfl

/-- A write of one pair leaves every other pair. -/
theorem r16_setR16_ne (s : State) {p x : Pair} (w : Word) (h : x ≠ p) : (s.setR16 p w).r16 x = s.r16 x := by
  cases p <;> cases x <;> simp_all [State.setR16, State.r16]

/-- A write of one stacked pair leaves every other stacked pair. -/
theorem rqq_setRqq_ne (s : State) {q x : StackPair} (w : Word) (h : x ≠ q) : (s.setRqq q w).rqq x = s.rqq x := by
  cases q <;> cases x <;> simp_all [State.setRqq, State.rqq]

/-! ## Instructions by the shape of the state they end in -/

section Shapes

variable {i : Instr} {s u : State} {len : Word} {cost : BitVec 64}

/-- An instruction that writes one 8-bit register in `u`, the state after its reads. -/
theorem next_of_setR8 {d : Reg8} {v : Octet} (h : exec i s = .next (retire len cost (u.setR8 d v))) :
    ∃ t, exec i s = .next t ∧ t.r8 d = v ∧ (∀ x, x ≠ d → t.r8 x = u.r8 x) ∧ t.f = u.f ∧
      t = { u with af := t.af, bc := t.bc, de := t.de, hl := t.hl, pc := u.pc + len, cycles := u.cycles + cost } :=
  ⟨_, h, by simp, fun x hx => by simp [r8_setR8_ne u v hx], by simp, congrArg (retire len cost) (setR8_state u d v)⟩

/-- An instruction that loads A from one address (R165 to R167): of the four pairs only AF changes. -/
theorem next_of_loadA {a : Word} (h : exec i s = .next (retire len cost ((busRead a s).2.setR8 .A (s.answer a)))) :
    ∃ t, exec i s = .next t ∧ t.a = s.answer a ∧ t.f = s.f ∧
      t = { s with af := t.af, pc := s.pc + len, cycles := s.cycles + cost,
                   busAnswers := dropAnswer s.busAnswers a, trace := s.trace ++ [.read a (s.answer a)] } :=
  ⟨_, h, a_setR8_A _ _, f_setR8 _ _ _, rfl⟩

/-- An instruction that stores one octet (R163, R164, R168 to R170). -/
theorem next_of_busWrite {a : Word} {v : Octet} (h : exec i s = .next (retire len cost (busWrite a v s))) :
    ∃ t, exec i s = .next t ∧ (∀ b, t.peek b = if b = a then v else s.peek b) ∧
      t = { s with mem := t.mem, pc := s.pc + len, cycles := s.cycles + cost, trace := s.trace ++ [.write a v] } :=
  ⟨_, h, fun b => peek_busWrite a b v s, rfl⟩

/-- An instruction that stores a Word in `u`, the state after its reads and register writes (R67, R173, R175, R180). -/
theorem next_of_busWriteWord {a w : Word} (h : exec i s = .next (retire len cost (busWriteWord a w u))) :
    ∃ t, exec i s = .next t ∧ (∀ b, t.peek b = if b = a then lo w else if b = a + 1 then hi w else u.peek b) ∧
      t = { u with mem := t.mem, pc := u.pc + len, cycles := u.cycles + cost,
                   trace := u.trace ++ [.write a (lo w), .write (a + 1) (hi w)] } := by
  obtain ⟨-, -, hword⟩ := wordAccessIsLittleEndian
  obtain ⟨-, -, -, hpeek, hstate⟩ := hword a w u
  exact ⟨_, h, hpeek, congrArg (retire len cost) hstate⟩

end Shapes

/-! ## 8-bit loads (R160 to R170) -/

/-- Settles O18: each instruction writes one register. -/
theorem loadRegister : Obligations.LoadRegister := by
  refine ⟨fun d r => fetchesOne_of ?_, fun d r s => next_of_setR8 (exec_ldReg d r s),
    fun d => fetchesOctet_of (.inl ?_), fun d n s => next_of_setR8 (exec_ldRegImm d n s)⟩
  · cases d <;> cases r <;> rfl
  · cases d <;> rfl

/-- Settles O19: each instruction reads one octet and writes one register. -/
theorem loadRegisterFromMemory : Obligations.LoadRegisterFromMemory := by
  refine ⟨fun d => fetchesOne_of ?_, fun d s => next_of_setR8 (exec_ldRegMem d s),
    fetchesOne_of rfl, fetchesOne_of rfl, fetchesWord_of rfl,
    fun s => next_of_loadA (exec_loadA .BC s), fun s => next_of_loadA (exec_loadA .DE s),
    fun nn s => next_of_loadA (exec_loadAFrom nn s)⟩
  cases d <;> rfl

/-- Settles O20: each instruction stores one octet. -/
theorem storeOctet : Obligations.StoreOctet := by
  refine ⟨fun r => fetchesOne_of ?_, fetchesOctet_of (.inl rfl), fetchesOne_of rfl, fetchesOne_of rfl, fetchesWord_of rfl,
    fun r s => next_of_busWrite (exec_storeReg r s), fun n s => next_of_busWrite (exec_storeImm n s),
    fun s => next_of_busWrite (exec_storeA .BC s), fun s => next_of_busWrite (exec_storeA .DE s),
    fun nn s => next_of_busWrite (exec_storeAAt nn s)⟩
  cases r <;> rfl

/-! ## 16-bit loads, PUSH and POP (R171 to R176) -/

/-- Settles O21: LD dd,nn writes one pair. -/
theorem loadPair : Obligations.LoadPair := by
  refine ⟨fun dd => fetchesWord_of ?_, fetchesOne_of rfl, fun dd nn s => ?_, exec_ldSPHL⟩
  · cases dd <;> rfl
  · exact ⟨_, exec_ldPairImm dd nn s, r16_setR16_same s dd nn, fun x hx => r16_setR16_ne s nn hx,
      congrArg (retire 3 10) (setR16_state s dd nn)⟩

/-- The Word read goes to HL (R172). -/
theorem loadHLFrom_eq (nn : Word) (s : State) : loadHLFrom nn s =
    { s with hl := mkWord (s.answer (nn + 1)) (s.answer nn), pc := s.pc + 3, cycles := s.cycles + 16,
             busAnswers := dropAnswer (dropAnswer s.busAnswers nn) (nn + 1),
             trace := s.trace ++ [.read nn (s.answer nn), .read (nn + 1) (s.answer (nn + 1))] } := by
  rw [loadHLFrom, busReadWord_value, busReadWord_state]
  rfl

/-- Settles O22, by the two accesses to a Word. -/
theorem loadStoreHLWord : Obligations.LoadStoreHLWord :=
  ⟨fetchesWord_of rfl, fetchesWord_of rfl, fun nn s => (exec_loadHLFrom nn s).trans (congrArg _ (loadHLFrom_eq nn s)),
    fun nn s => next_of_busWriteWord (exec_storeHLAt nn s)⟩

/-- POP writes one stacked pair in the state that `Pop` answers (R176, R251). -/
theorem popPair_eq (qq : StackPair) (s : State) : popPair qq s = retire 1 10 (State.setRqq
    { s with sp := s.sp + 2, busAnswers := dropAnswer (dropAnswer s.busAnswers s.sp) (s.sp + 1),
             trace := s.trace ++ [.read s.sp (s.answer s.sp), .read (s.sp + 1) (s.answer (s.sp + 1))] }
    qq (mkWord (s.answer (s.sp + 1)) (s.answer s.sp))) := by
  rw [popPair, pop_eq]

/-- Settles O23: PUSH stores a Word at the new SP, POP writes one pair. -/
theorem pushAndPopPairs : Obligations.PushAndPopPairs := by
  refine ⟨fun qq => ⟨fetchesOne_of ?_, fetchesOne_of ?_⟩, fun qq s => next_of_busWriteWord (exec_pushForm qq s), fun qq s => ?_⟩
  · cases qq <;> rfl
  · cases qq <;> rfl
  · exact ⟨_, (exec_popForm qq s).trans (congrArg _ (popPair_eq qq s)), rqq_setRqq_same _ qq _, fun x hx => rqq_setRqq_ne _ _ hx,
      congrArg (retire 1 10) (setRqq_state _ qq _)⟩

/-! ## Exchanges (R177 to R180) -/

/-- Settles O24: each exchange is its own equation. -/
theorem exchangePairs : Obligations.ExchangePairs :=
  ⟨fetchesOne_of rfl, fetchesOne_of rfl, fetchesOne_of rfl, fun s => ⟨exec_exDEHL s, exec_exAF s, exec_exx s⟩⟩

/-- EX (SP),HL stores the old HL in the state that its read leaves, with the Word read in HL (R180). -/
theorem exchangeStack_eq (s : State) : exchangeStack s = retire 1 19 (busWriteWord s.sp s.hl
    { s with hl := mkWord (s.answer (s.sp + 1)) (s.answer s.sp),
             busAnswers := dropAnswer (dropAnswer s.busAnswers s.sp) (s.sp + 1),
             trace := s.trace ++ [.read s.sp (s.answer s.sp), .read (s.sp + 1) (s.answer (s.sp + 1))] }) := by
  rw [exchangeStack, busReadWord_value, busReadWord_state]
  rfl

/-- Settles O25: a Word is read at SP, then the old HL is stored there. -/
theorem exchangeStackTop : Obligations.ExchangeStackTop := by
  refine ⟨fetchesOne_of rfl, fun s => ?_⟩
  obtain ⟨t, ht, hpeek, hframe⟩ := next_of_busWriteWord ((exec_exStack s).trans (congrArg _ (exchangeStack_eq s)))
  rw [List.append_assoc] at hframe
  exact ⟨t, ht, hpeek, hframe⟩

end Sys2Proof.Machine

/-! SUPPORT. 8-bit arithmetic (R200 to R221): the shape of the state that an accumulator instruction ends in, the rotates, DAA and the flag
copies by exact arithmetic. -/

namespace Sys2Proof.Machine

/-! ## Flags of F by bit number (R27) -/

/-- A flag whose mask is bit `k` alone is bit `k` of F. -/
theorem flag_eq_bit (s : State) {mask : Octet} {k : Nat} (hmask : mask = BitVec.twoPow 8 k) (hk : BitVec.twoPow 8 k ≠ 0) :
    s.flag mask = s.f.getLsbD k := by
  rw [State.flag, hmask, BitVec.and_twoPow]
  cases s.f.getLsbD k
  · rfl
  · exact bne_iff_ne.2 hk

theorem flag_C (s : State) : s.flag maskC = s.f.getLsbD 0 := flag_eq_bit s rfl (by decide)

theorem flag_N (s : State) : s.flag maskN = s.f.getLsbD 1 := flag_eq_bit s rfl (by decide)

theorem flag_H (s : State) : s.flag maskH = s.f.getLsbD 4 := flag_eq_bit s rfl (by decide)

/-! ## Instructions by the shape of the state they end in -/

section Shapes

variable {i : Instr} {s u : State} {len : Word} {cost : BitVec 64} {v : Octet} {x : Affection}

/-- An instruction that writes A and F in `u`, the state after its reads: of the four pairs only AF changes. -/
theorem next_of_setA_affect (h : exec i s = .next (retire len cost ((u.setR8 .A v).affect x))) :
    ∃ t, exec i s = .next t ∧ t.a = v ∧ t.f = applyAff x u.f ∧
      t = { u with af := t.af, pc := u.pc + len, cycles := u.cycles + cost } :=
  ⟨_, h, by simp [← r8_A], by simp, rfl⟩

/-- An instruction that writes F alone: it gives A back as it is. -/
theorem next_of_affect (h : exec i s = .next (retire len cost (u.affect x))) :
    ∃ t, exec i s = .next t ∧ t.a = u.a ∧ t.f = applyAff x u.f ∧
      t = { u with af := t.af, pc := u.pc + len, cycles := u.cycles + cost } :=
  next_of_setA_affect (by rwa [← r8_A, setR8_r8])

/-- An instruction that writes one 8-bit register and F (R210, R212). -/
theorem next_of_setR8_affect {d : Reg8} (h : exec i s = .next (retire len cost ((u.setR8 d v).affect x))) :
    ∃ t, exec i s = .next t ∧ t.r8 d = v ∧ (∀ y, y ≠ d → t.r8 y = u.r8 y) ∧ t.f = applyAff x u.f ∧
      t = { u with af := t.af, bc := t.bc, de := t.de, hl := t.hl, pc := u.pc + len, cycles := u.cycles + cost } :=
  ⟨_, h, by simp, fun y hy => by simp [r8_setR8_ne u v hy], by simp,
    congrArg (fun w => retire len cost { w with af := ((u.setR8 d v).affect x).af }) (setR8_state u d v)⟩

/-- An instruction that reads one octet, writes one back to the same address and writes F (R211, R213). -/
theorem next_of_busUpdate {a : Word} (h : exec i s = .next (retire len cost ((busWrite a v (busRead a s).2).affect x))) :
    ∃ t, exec i s = .next t ∧ (∀ b, t.peek b = if b = a then v else s.peek b) ∧ t.a = s.a ∧ t.f = applyAff x s.f ∧
      t = { s with af := t.af, mem := t.mem, pc := s.pc + len, cycles := s.cycles + cost, busAnswers := dropAnswer s.busAnswers a,
                   trace := s.trace ++ [.read a (s.answer a), .write a v] } := by
  refine ⟨_, h, fun b => peek_busWrite a b v (busRead a s).2, by simp [← r8_A], f_affect _ x, ?_⟩
  rw [show s.trace ++ [.read a (s.answer a), .write a v] = s.trace ++ [.read a (s.answer a)] ++ [.write a v] by simp]
  rfl

end Shapes

/-! ## The accumulator operations (R200 to R208) -/

/-- The bytes of each operation and operand (R104, R208), evaluated. -/
theorem fetchesAlu (op : AluOp) : FetchesAlu op := by
  refine ⟨fun r => fetchesOne_of ?_, fetchesOne_of ?_, fetchesOctet_of (.inl ?_)⟩
  · cases op <;> cases r <;> rfl
  · cases op <;> rfl
  · cases op <;> rfl

/-- An accumulator operation reads its operand, then writes A and F. -/
theorem next_of_alu (op : AluOp) (src : AluSource) (s : State) :
    ∃ t, exec (Form.alu op src).instr s = .next t ∧ t.a = (op.result s.a (readSource src s).1 (s.f.getLsbD 0)).1 ∧
      t.f = applyAff (op.result s.a (readSource src s).1 (s.f.getLsbD 0)).2 s.f ∧
      t = { (readSource src s).2 with af := t.af, pc := (readSource src s).2.pc + sourceLength src,
                                      cycles := (readSource src s).2.cycles + sourceCost src } := by
  have hf : (readSource src s).2.f = s.f := congrArg lo (readSource_af src s)
  rw [← flag_C, ← hf]
  exact next_of_setA_affect ((exec_alu op src s).trans (congrArg _ (run_alu op src s)))

theorem aluAnswers (op : AluOp) :
    AluAnswers op (fun s v => (op.result s.a v (s.f.getLsbD 0)).1) (fun s v => applyAff (op.result s.a v (s.f.getLsbD 0)).2 s.f) :=
  ⟨fun r s => next_of_alu op (.reg r) s, fun s => next_of_alu op .mHL s, fun n s => next_of_alu op (.imm n) s⟩

theorem add8_noCarry (a v : Octet) : (add8 a v false).1 = a + v := BitVec.add_zero _

theorem sub8_noBorrow (a v : Octet) : (sub8 a v false).1 = a - v := BitVec.sub_zero _

/-- CP sets Z where the operands are equal, and C where the first is below (R207). -/
theorem cp8_compares (a v f : Octet) :
    ((applyAff (cp8 a v) f).getLsbD 6 = true ↔ a = v) ∧ ((applyAff (cp8 a v) f).getLsbD 0 = true ↔ a.toNat < v.toNat) := by
  obtain ⟨-, -, hZ, -, -, -, -, -, hC, hcp⟩ := subAndCompareFlagsAreExact a v f false
  rw [sub8_noBorrow, sub_eq_zero] at hZ
  rw [hcp]
  exact ⟨by simpa using hZ, by simpa using hC⟩

/-- Settles O26: the five operations are `AluOp.result`, whose sums and differences without a carry-in are plain. -/
theorem accumulatorArithmetic : Obligations.AccumulatorArithmetic := by
  have hadd := aluAnswers .add
  have hsub := aluAnswers .sub
  simp only [AluOp.result, add8_noCarry] at hadd
  simp only [AluOp.result, sub8_noBorrow] at hsub
  exact ⟨fetchesAlu _, fetchesAlu _, fetchesAlu _, fetchesAlu _, fetchesAlu _,
    hadd, aluAnswers .adc, hsub, aluAnswers .sbc, aluAnswers .cp, cp8_compares⟩

/-- Settles O27. -/
theorem accumulatorLogic : Obligations.AccumulatorLogic :=
  ⟨fetchesAlu _, fetchesAlu _, fetchesAlu _, aluAnswers .and, aluAnswers .xor, aluAnswers .or⟩

/-! ## INC and DEC (R210 to R213) -/

theorem inc8_value (a : Octet) : (inc8 a).1 = a + 1 := add8_noCarry a 1

theorem dec8_value (a : Octet) : (dec8 a).1 = a - 1 := sub8_noBorrow a 1

/-- Settles O28: each instruction writes one register or the octet at HL, and F. -/
theorem incDecOctet : Obligations.IncDecOctet := by
  refine ⟨fun r => ⟨fetchesOne_of ?_, fetchesOne_of ?_⟩, fetchesOne_of rfl, fetchesOne_of rfl, fun r s => ?_, fun r s => ?_,
    fun s => ?_, fun s => ?_⟩
  · cases r <;> rfl
  · cases r <;> rfl
  · rw [← inc8_value]
    exact next_of_setR8_affect (exec_incReg r s)
  · rw [← dec8_value]
    exact next_of_setR8_affect (exec_decReg r s)
  · rw [← inc8_value]
    exact next_of_busUpdate (exec_incMem s)
  · rw [← dec8_value]
    exact next_of_busUpdate (exec_decMem s)

/-! ## The accumulator rotates (R214 to R217) -/

/-- RLA doubles A and takes C in at the right. -/
theorem toNat_rotLeftCarry (a : Octet) (c : Bool) : (rotLeftCarry a c).1.toNat = (a.toNat * 2 + c.toNat) % 256 := by
  have hdouble : (a <<< 1).toNat = 2 ^ 1 * (a.toNat % 128) := by
    rw [BitVec.toNat_shiftLeft, Nat.shiftLeft_eq]
    omega
  have hc : c.toNat < 2 ^ 1 := c.toNat_lt
  rw [rotLeftCarry, BitVec.toNat_or, hdouble, toNat_bitOf, ← Nat.two_pow_add_eq_or_of_lt hc]
  omega

/-- RRA halves A and takes C in at the left. -/
theorem toNat_rotRightCarry (a : Octet) (c : Bool) : (rotRightCarry a c).1.toNat = a.toNat / 2 + 128 * c.toNat := by
  have hhalf : (a >>> 1).toNat = a.toNat / 2 := by rw [BitVec.toNat_ushiftRight, Nat.shiftRight_eq_div_pow, pow_one]
  have hc : (bitOf c <<< 7).toNat = 2 ^ 7 * c.toNat := by cases c <;> rfl
  have ha := a.isLt
  rw [rotRightCarry, BitVec.toNat_or, hhalf, hc, Nat.or_comm, ← Nat.two_pow_add_eq_or_of_lt (by omega)]
  omega

/-- Bit `k` of an octet as a number. -/
theorem toNat_bitOf_getLsbD (a : Octet) (k : Nat) : (bitOf (a.getLsbD k)).toNat = a.toNat / 2 ^ k % 2 := by
  rw [toNat_bitOf, BitVec.getLsbD, Nat.toNat_testBit]

/-- A shift right by seven places leaves bit 7. -/
theorem ushiftRight_seven (a : Octet) : a >>> 7 = bitOf (a.getLsbD 7) := by
  apply BitVec.eq_of_toNat_eq
  rw [toNat_bitOf_getLsbD, BitVec.toNat_ushiftRight, Nat.shiftRight_eq_div_pow]
  omega

/-- A shift left by seven places leaves bit 0. -/
theorem shiftLeft_seven (a : Octet) : a <<< 7 = bitOf (a.getLsbD 0) <<< 7 := by
  apply BitVec.eq_of_toNat_eq
  rw [BitVec.toNat_shiftLeft, BitVec.toNat_shiftLeft, toNat_bitOf_getLsbD, Nat.shiftLeft_eq, Nat.shiftLeft_eq]
  omega

theorem rotLeftCircular_eq (a : Octet) : rotLeftCircular a = (a.rotateLeft 1, a.getLsbD 7) := by
  rw [rotLeftCircular, ← ushiftRight_seven, BitVec.rotateLeft_def]

theorem rotRightCircular_eq (a : Octet) : rotRightCircular a = (a.rotateRight 1, a.getLsbD 0) := by
  rw [rotRightCircular, ← shiftLeft_seven, BitVec.rotateRight_def]

/-- The flags of a rotate: C is the bit that left, on top of `RotAFlags` (R134). -/
theorem applyAff_rotateFlags (v f : Octet) (c : Bool) :
    applyAff (rotateFlags v c) f = (f &&& 0xC4) ||| (v &&& 0x28) ||| bitOf c := by
  have hc : bitOf c &&& 0x01 = bitOf c := by cases c <;> rfl
  rw [rotateFlags, applyAff_overlay, applyAff_rotAFlags, applyAff_aff, hc, BitVec.and_or_distrib_right, BitVec.and_assoc,
    BitVec.and_assoc]
  rfl

/-- A rotate of A, by the function of its code. -/
theorem next_of_rotate (k : Rotation) (s : State) :
    ∃ t, exec (Form.rotate k).instr s = .next t ∧ t.a = (k.rot s.a (s.f.getLsbD 0)).1 ∧
      t.f = (s.f &&& 0xC4) ||| (t.a &&& 0x28) ||| bitOf (k.rot s.a (s.f.getLsbD 0)).2 ∧
      t = { s with af := t.af, pc := s.pc + 1, cycles := s.cycles + 4 } := by
  have hexec := exec_form (f := .rotate k) nofun s
  rw [run_rotate, flag_C] at hexec
  obtain ⟨t, ht, ha, hf, hframe⟩ := next_of_setA_affect hexec
  rw [applyAff_rotateFlags, ← ha] at hf
  exact ⟨t, ht, ha, hf, hframe⟩

/-- Settles O29. -/
theorem rotateAccumulator : Obligations.RotateAccumulator := by
  refine ⟨fetchesOne_of rfl, fetchesOne_of rfl, fetchesOne_of rfl, fetchesOne_of rfl, fun s => ⟨?_, ?_, ?_, ?_⟩⟩
  · obtain ⟨t, ht, ha, hframe⟩ := next_of_rotate .rlca s
    exact ⟨t, ht, ha.trans (congrArg Prod.fst (rotLeftCircular_eq s.a)), hframe⟩
  · obtain ⟨t, ht, ha, hframe⟩ := next_of_rotate .rrca s
    exact ⟨t, ht, ha.trans (congrArg Prod.fst (rotRightCircular_eq s.a)), hframe⟩
  · obtain ⟨t, ht, ha, hframe⟩ := next_of_rotate .rla s
    exact ⟨t, ht, (congrArg BitVec.toNat ha).trans (toNat_rotLeftCarry ..), hframe⟩
  · obtain ⟨t, ht, ha, hframe⟩ := next_of_rotate .rra s
    exact ⟨t, ht, (congrArg BitVec.toNat ha).trans (toNat_rotRightCarry ..), hframe⟩

/-! ## CPL, SCF and CCF (R219 to R221) -/

/-- An affection that copies F5 and F3 from an octet and gives the other flags of its mask fixed values. -/
theorem applyAff_aff_copy {mask value : Octet} (hcopy : 0x28 &&& mask = (0x28 : Octet)) (hvalue : value &&& mask = value)
    (a f : Octet) : applyAff (aff mask ((a &&& 0x28) ||| value)) f = (f &&& ~~~mask) ||| (a &&& 0x28) ||| value := by
  rw [applyAff_aff, BitVec.and_or_distrib_right, BitVec.and_assoc, hcopy, hvalue, BitVec.or_assoc]

theorem applyAff_ccfFlags (a f : Octet) (c : Bool) :
    applyAff (ccfFlags a c) f = (f &&& 0xC4) ||| (a &&& 0x28) ||| (if c = true then 0x10 else 0x01) :=
  applyAff_aff_copy rfl (by cases c <;> rfl) a f

/-- Settles O31: each instruction copies F5 and F3 from A and fixes the other flags it touches. -/
theorem complementAndCarry : Obligations.ComplementAndCarry := by
  refine ⟨fetchesOne_of rfl, fetchesOne_of rfl, fetchesOne_of rfl, fun s => ⟨?_, ?_, ?_⟩⟩
  · obtain ⟨t, ht, ha, hf, hframe⟩ := next_of_setA_affect (exec_cpl s)
    rw [cplFlags, applyAff_aff_copy rfl rfl, ← ha] at hf
    exact ⟨t, ht, ha.trans BitVec.xor_allOnes, hf, hframe⟩
  · obtain ⟨t, ht, ha, hf, hframe⟩ := next_of_affect (exec_scf s)
    exact ⟨t, ht, ha, hf.trans (applyAff_aff_copy rfl rfl _ _), hframe⟩
  · obtain ⟨t, ht, ha, hf, hframe⟩ := next_of_affect (exec_ccf s)
    exact ⟨t, ht, ha, hf.trans (flag_C s ▸ applyAff_ccfFlags _ _ _), hframe⟩

/-! ## DAA (R218) -/

/-- The condition of the correction by 6. -/
def daaLow (a : Octet) (h : Bool) : Bool := h || (0x09 : Octet).ult (a &&& 0x0F)

/-- The condition of the correction by 60 hex. -/
def daaHigh (a : Octet) (c : Bool) : Bool := c || (0x99 : Octet).ult a

/-- The new H. -/
def daaHalf (a : Octet) (h n : Bool) : Bool := if n then h && (a &&& 0x0F).ult 0x06 else (0x09 : Octet).ult (a &&& 0x0F)

/-- The correction of A. -/
def daaCorrection (low high : Bool) : Octet := flagIf low 0x06 ||| flagIf high 0x60

theorem daa_value (a : Octet) (h n c : Bool) : (daa a h n c).1 =
    if n then a - daaCorrection (daaLow a h) (daaHigh a c) else a + daaCorrection (daaLow a h) (daaHigh a c) := rfl

theorem toNat_lowNibble (a : Octet) : (a &&& 0x0F).toNat = a.toNat % 16 := toNat_and_lowMask (j := 4) rfl a

theorem nine_ult_lowNibble (a : Octet) : (0x09 : Octet).ult (a &&& 0x0F) = true ↔ 9 < a.toNat % 16 := by
  rw [BitVec.ult_iff_lt, BitVec.lt_def, toNat_lowNibble]
  rfl

theorem daaLow_iff (a : Octet) (h : Bool) : daaLow a h = true ↔ h = true ∨ 9 < a.toNat % 16 := by
  rw [daaLow, Bool.or_eq_true, nine_ult_lowNibble]

theorem daaHigh_iff (a : Octet) (c : Bool) : daaHigh a c = true ↔ c = true ∨ 0x99 < a.toNat := by
  rw [daaHigh, Bool.or_eq_true, BitVec.ult_iff_lt, BitVec.lt_def]
  rfl

theorem daaHalf_add (a : Octet) (h : Bool) : daaHalf a h false = true ↔ 9 < a.toNat % 16 := nine_ult_lowNibble a

theorem daaHalf_sub (a : Octet) (h : Bool) : daaHalf a h true = true ↔ h = true ∧ a.toNat % 16 < 6 := by
  rw [daaHalf, if_pos rfl, Bool.and_eq_true, BitVec.ult_iff_lt, BitVec.lt_def, toNat_lowNibble]
  rfl

/-- The two corrections have no bit in common. -/
theorem toNat_daaCorrection (low high : Bool) : (daaCorrection low high).toNat = 6 * low.toNat + 0x60 * high.toNat := by
  cases low <;> cases high <;> rfl

theorem toNat_daa_add (a : Octet) (h c : Bool) : (daa a h false c).1.toNat =
    (a.toNat + 6 * (daaLow a h).toNat + 0x60 * (daaHigh a c).toNat) % 256 := by
  rw [daa_value, if_neg Bool.false_ne_true, BitVec.toNat_add, toNat_daaCorrection, Nat.add_assoc]

theorem toNat_daa_sub (a : Octet) (h c : Bool) : (daa a h true c).1.toNat =
    (a.toNat + 256 - 6 * (daaLow a h).toNat - 0x60 * (daaHigh a c).toNat) % 256 := by
  have hlow := (daaLow a h).toNat_le
  have hhigh := (daaHigh a c).toNat_le
  rw [daa_value, if_pos rfl, BitVec.toNat_sub, toNat_daaCorrection]
  omega

/-- DAA packs F as ADD and SUB do, with N as it was. -/
theorem applyAff_daa (a f : Octet) (h n c : Bool) : applyAff (daa a h n c).2 f =
    packFlags (daa a h n c).1 (daaHalf a h n) (parity (daa a h n c).1) (f.getLsbD 1) (daaHigh a c) := by
  show applyAff (overlay (intrinsic (daa a h n c).1)
    (aff 0x15 (flagIf (daaHalf a h n) maskH ||| flagIf (parity (daa a h n c).1) maskPV ||| flagIf (daaHigh a c) maskC))) f = _
  apply BitVec.eq_of_getLsbD_eq
  intro k hk
  simp only [applyAff_overlay, intrinsic, applyAff_aff_bit, packFlags, BitVec.getLsbD_or, flagIf_bit, intrinsicBits_bit]
  interval_cases k <;> simp [maskZ, maskH, maskPV, maskN, maskC]

end Sys2Proof.Machine

namespace Sys2Proof

open Machine

/-- Settles O30: A is corrected by addition or subtraction, and F is packed. It stands beside `Machine`, where its name is that of the
model's operation. -/
theorem decimalAdjust : Obligations.DecimalAdjust := by
  refine ⟨fetchesOne_of rfl, fun s => ?_⟩
  have hexec := exec_form (f := .daa) nofun s
  rw [run_daa, flag_H, flag_N, flag_C] at hexec
  obtain ⟨t, ht, ha, hf, hframe⟩ := next_of_setA_affect hexec
  rw [applyAff_daa, ← ha] at hf
  obtain ⟨hS, hZ, hF5, hH, hF3, hPV, hN, hC⟩ := packFlags_bits t.a (daaHalf s.a (s.f.getLsbD 4) (s.f.getLsbD 1)) (parity t.a)
    (s.f.getLsbD 1) (daaHigh s.a (s.f.getLsbD 0))
  rw [← hf] at hS hZ hF5 hH hF3 hPV hN hC
  refine ⟨t, daaLow s.a (s.f.getLsbD 4), daaHigh s.a (s.f.getLsbD 0), daaLow_iff _ _, daaHigh_iff _ _, ht, fun hn => ?_, fun hn => ?_,
    hS, by rw [hZ, beq_iff_eq], hF5, hF3, by rw [hPV, parity_iff], hN, hC, hframe⟩
  · rw [ha, hH, hn]
    exact ⟨toNat_daa_add _ _ _, daaHalf_add _ _⟩
  · rw [ha, hH, hn]
    exact ⟨toNat_daa_sub _ _ _, daaHalf_sub _ _⟩

end Sys2Proof

/-! SUPPORT. 16-bit arithmetic (R240 to R242): ADD HL,ss writes HL and F, INC ss and DEC ss write one pair. -/

namespace Sys2Proof.Machine

/-! ## Instructions by the shape of the state they end in -/

section Shapes

variable {i : Instr} {s : State} {len : Word} {cost : BitVec 64} {w : Word}

/-- An instruction that writes one pair. -/
theorem next_of_setR16 {p : Pair} (h : exec i s = .next (retire len cost (s.setR16 p w))) :
    ∃ t, exec i s = .next t ∧ t.r16 p = w ∧ (∀ x, x ≠ p → t.r16 x = s.r16 x) ∧
      t = { s with bc := t.bc, de := t.de, hl := t.hl, sp := t.sp, pc := s.pc + len, cycles := s.cycles + cost } :=
  ⟨_, h, r16_setR16_same s p w, fun _ hx => r16_setR16_ne s w hx, congrArg (retire len cost) (setR16_state s p w)⟩

/-- An instruction that writes HL and F: A, the other half of AF, is left. -/
theorem next_of_setHL_affect {x : Affection} (h : exec i s = .next (retire len cost ((s.setR16 .HL w).affect x))) :
    ∃ t, exec i s = .next t ∧ t.hl = w ∧ t.a = s.a ∧ t.f = applyAff x s.f ∧
      t = { s with af := t.af, hl := t.hl, pc := s.pc + len, cycles := s.cycles + cost } :=
  ⟨_, h, rfl, r8_affect (s.setR16 .HL w) x .A, f_affect (s.setR16 .HL w) x, rfl⟩

end Shapes

/-! ## ADD HL,ss, INC ss and DEC ss (R240 to R242) -/

/-- Settles O32: ADD HL,ss writes HL and F, the other two write one pair. -/
theorem pairArithmetic : Obligations.PairArithmetic := by
  refine ⟨fun ss => ⟨fetchesOne_of ?_, fetchesOne_of ?_, fetchesOne_of ?_⟩, fun ss s => next_of_setHL_affect (exec_addHL ss s),
    fun ss s => next_of_setR16 (exec_incPair ss s), fun ss s => next_of_setR16 (exec_decPair ss s)⟩
  · cases ss <;> rfl
  · cases ss <;> rfl
  · cases ss <;> rfl

end Sys2Proof.Machine

/-! SUPPORT. Control transfer (R250 to R264): the stack primitives, the bit that each condition tests, jumps, calls and returns. -/

namespace Sys2Proof.Machine

/-! ## Push, Pop and Return (R250, R251, R262) -/

/-- Everything `Push` does but the octets stored (R250). -/
theorem push_state (w : Word) (s : State) : push w s =
    { s with sp := s.sp - 2, mem := (push w s).mem,
             trace := s.trace ++ [.write (s.sp - 2) (lo w), .write (s.sp - 2 + 1) (hi w)] } := by
  obtain ⟨-, -, hword⟩ := wordAccessIsLittleEndian
  obtain ⟨-, -, -, -, hstate⟩ := hword (s.sp - 2) w { s with sp := s.sp - 2 }
  exact hstate

/-- Where each octet of the pushed Word lies: the low one at the new SP (R250). -/
theorem peek_push_low_first (w : Word) (s : State) (b : Word) :
    (push w s).peek b = if b = s.sp - 2 then lo w else if b = s.sp - 2 + 1 then hi w else s.peek b := by
  obtain ⟨-, -, hword⟩ := wordAccessIsLittleEndian
  obtain ⟨-, -, -, hpeek, -⟩ := hword (s.sp - 2) w { s with sp := s.sp - 2 }
  exact hpeek b

/-- `Pop` reads the two octets that `Push` stored, where nothing else is pending for them. -/
theorem pop_push_value {w : Word} {s : State} (hlo : pendingAnswer s.busAnswers (s.sp - 2) = none)
    (hhi : pendingAnswer s.busAnswers (s.sp - 2 + 1) = none) : (pop (push w s)).1 = w := by
  obtain ⟨-, -, hword⟩ := wordAccessIsLittleEndian
  obtain ⟨hback, -⟩ := hword (s.sp - 2) w { s with sp := s.sp - 2 }
  exact hback hlo hhi

/-- Everything a return does (R262): PC and SP, two reads, the cost. -/
theorem returnFrom_eq (cost : BitVec 64) (s : State) : returnFrom cost s =
    { s with pc := mkWord (s.answer (s.sp + 1)) (s.answer s.sp), sp := s.sp + 2, cycles := s.cycles + cost,
             busAnswers := dropAnswer (dropAnswer s.busAnswers s.sp) (s.sp + 1),
             trace := s.trace ++ [.read s.sp (s.answer s.sp), .read (s.sp + 1) (s.answer (s.sp + 1))] } := by
  rw [returnFrom, pop_eq]
  rfl

/-- Settles O10: SP is lowered and raised by 2, and the octets are those of a Word access at the new SP. -/
theorem popUndoesPush : Obligations.PopUndoesPush := fun w s =>
  ⟨rfl, peek_push_low_first w s, pop_push_value, BitVec.sub_add_cancel s.sp 2, pop_value s, rfl, rfl⟩

/-! ## Conditions (R103, R253) -/

theorem flag_Z (s : State) : s.flag maskZ = s.f.getLsbD 6 := flag_eq_bit s rfl (by decide)

theorem flag_PV (s : State) : s.flag maskPV = s.f.getLsbD 2 := flag_eq_bit s rfl (by decide)

theorem flag_S (s : State) : s.flag maskS = s.f.getLsbD 7 := flag_eq_bit s rfl (by decide)

/-- The bit of F that a condition tests. -/
def Cond.bit : Cond → Nat
  | .NZ | .Z => 6
  | .NC | .C => 0
  | .PO | .PE => 2
  | .P | .M => 7

/-- The conditions of even code ask that their bit be clear, the others that it be set. -/
theorem holds_eq_bit (s : State) (cc : Cond) :
    s.holds cc = if cc.code.getLsbD 0 then s.f.getLsbD cc.bit else !s.f.getLsbD cc.bit := by
  cases cc <;> simp [State.holds, Cond.code, Cond.bit, flag_Z, flag_C, flag_PV, flag_S]

/-! ## Jumps (R254 to R259) -/

/-- Settles O33: each jump is its own equation; JP cc,nn costs the same either way. -/
theorem absoluteJumps : Obligations.AbsoluteJumps := by
  refine ⟨fun s => ⟨holds_eq_bit s .NZ, holds_eq_bit s .Z, holds_eq_bit s .NC, holds_eq_bit s .C,
      holds_eq_bit s .PO, holds_eq_bit s .PE, holds_eq_bit s .P, holds_eq_bit s .M⟩,
    fetchesWord_of rfl, fun cc => fetchesWord_of ?_, fetchesOne_of rfl, exec_jp, fun cc nn s => ?_, exec_jpHL⟩
  · cases cc <;> rfl
  · rw [exec_jpIf, jumpIf]
    split <;> rfl

/-- The target of a relative jump as the Word of an integer. -/
theorem relTarget_eq_ofInt (p : Word) (e : Octet) : relTarget p e = BitVec.ofInt 16 (p.toNat + 2 + e.toInt) := by
  rw [BitVec.ofInt_add, BitVec.ofInt_add, BitVec.ofInt_natCast, BitVec.ofNat_toNat, BitVec.setWidth_eq]
  rfl

/-- The target is `pc0 + 2 + e` modulo 65536, with `e` signed (R95). -/
theorem toNat_relTarget (p : Word) (e : Octet) :
    (relTarget p e).toNat = (((p.toNat : Int) + 2 + e.toInt) % 65536).toNat := by
  rw [relTarget_eq_ofInt, BitVec.toNat_ofInt]
  rfl

theorem jumpRelIf_of_holds {cc : ShortCond} {s : State} (e : Octet) (h : s.holds cc.toCond = true) :
    jumpRelIf cc e s = jumpTo (relTarget s.pc e) 12 s := if_pos h

theorem jumpRelIf_of_not_holds {cc : ShortCond} {s : State} (e : Octet) (h : s.holds cc.toCond = false) :
    jumpRelIf cc e s = retire 2 7 s := if_neg (by simp [h])

/-- B counts down to 0 from 1 alone. -/
theorem decWrap_bne_zero_iff {w : Nat} (x : BitVec w) : (decWrap x != 0) = true ↔ x ≠ 1 :=
  bne_iff_ne.trans (sub_ne_zero (a := x) (b := 1))

/-- DJNZ writes B, and jumps unless B was 1 (R259). -/
theorem decJumpRel_eq (e : Octet) (s : State) : decJumpRel e s =
    { s.setR8 .B (s.r8 .B - 1) with
      pc := if s.r8 .B = 1 then s.pc + 2 else relTarget s.pc e
      cycles := s.cycles + if s.r8 .B = 1 then 8 else 13 } := by
  by_cases h : s.r8 .B = 1
  · simp only [decJumpRel, decWrap_bne_zero_iff, h, ne_eq, not_true, if_false, if_true]
    rfl
  · simp only [decJumpRel, decWrap_bne_zero_iff, h, ne_eq, not_false_iff, if_false, if_true]
    rfl

/-- Settles O34: the target is taken as the Word of an integer, and DJNZ writes B alone of the registers. -/
theorem relativeJumps : Obligations.RelativeJumps := by
  refine ⟨fun s => ⟨holds_eq_bit s .NZ, holds_eq_bit s .Z, holds_eq_bit s .NC, holds_eq_bit s .C⟩,
    fetchesOctet_of (.inr rfl), fun cc => fetchesOctet_of (.inr ?_), fetchesOctet_of (.inr rfl), toNat_relTarget, exec_jr,
    fun cc e s => ⟨fun h => ?_, fun h => ?_⟩,
    fun e s => ⟨_, (exec_djnz e s).trans (congrArg _ (decJumpRel_eq e s)), ?_, ?_, rfl⟩⟩
  · cases cc <;> rfl
  · rw [exec_jrIf, jumpRelIf_of_holds e h]
    rfl
  · rw [exec_jrIf, jumpRelIf_of_not_holds e h]
    rfl
  · exact r8_setR8_same s .B _
  · exact r8_setR8_ne s (r := .B) (x := .C) _ (by decide)

/-! ## Calls (R260, R261, R264) -/

/-- Each restart target is eight times its number (R105). -/
theorem toNat_rstTarget (k : Fin 8) : (rstTarget k).toNat = k.val * 8 :=
  (BitVec.toNat_ofNat _ 16).trans (Nat.mod_eq_of_lt (by omega))

theorem callIf_of_holds {cc : Cond} {s : State} (nn : Word) (h : s.holds cc = true) : callIf cc nn s = callAt nn s := if_pos h

theorem callIf_of_not_holds {cc : Cond} {s : State} (nn : Word) (h : s.holds cc = false) : callIf cc nn s = retire 3 10 s :=
  if_neg (by simp [h])

/-- An instruction that pushes the address after it and assigns PC (R252): what it stores and what it leaves. -/
theorem next_of_call {i : Instr} {s : State} {dest len : Word} {cost : BitVec 64}
    (h : exec i s = .next (charge cost (call dest { s with pc := s.pc + len }))) :
    ∃ t, exec i s = .next t ∧ t.pc = dest ∧
      (∀ b, t.peek b = if b = s.sp - 2 then lo (s.pc + len) else if b = s.sp - 2 + 1 then hi (s.pc + len) else s.peek b) ∧
      t = { s with pc := t.pc, sp := s.sp - 2, mem := t.mem, cycles := s.cycles + cost,
                   trace := s.trace ++ [.write (s.sp - 2) (lo (s.pc + len)), .write (s.sp - 2 + 1) (hi (s.pc + len))] } :=
  ⟨_, h, rfl, peek_push_low_first (s.pc + len) { s with pc := s.pc + len },
    congrArg (fun u => charge cost { u with pc := dest }) (push_state (s.pc + len) { s with pc := s.pc + len })⟩

/-- Settles O35: CALL and RST push the address after them; CALL cc is CALL or no transfer. -/
theorem calls : Obligations.Calls := by
  refine ⟨fetchesWord_of rfl, fun cc => fetchesWord_of ?_, fun k => fetchesOne_of ?_, fun nn s => ?_,
    fun cc nn s => ⟨fun h => ?_, fun h => ?_⟩, fun k s => ?_⟩
  · cases cc <;> rfl
  · fin_cases k <;> rfl
  · obtain ⟨t, ht, hpc, hpeek, hframe⟩ := next_of_call (exec_callAt nn s)
    rw [hpc] at hframe
    exact ⟨t, ht, hpeek, hframe⟩
  · exact ⟨callAt nn s, (exec_callIf cc nn s).trans (congrArg _ (callIf_of_holds nn h)), exec_callAt nn s⟩
  · rw [exec_callIf, callIf_of_not_holds nn h]
    rfl
  · obtain ⟨t, ht, hpc, hpeek, hframe⟩ := next_of_call (exec_rst k s)
    exact ⟨t, ht, hpc ▸ toNat_rstTarget k, hpeek, hframe⟩

/-! ## Returns (R262, R263) -/

theorem retIf_of_holds {cc : Cond} {s : State} (h : s.holds cc = true) : retIf cc s = returnFrom 11 s := if_pos h

theorem retIf_of_not_holds {cc : Cond} {s : State} (h : s.holds cc = false) : retIf cc s = retire 1 5 s := if_neg (by simp [h])

/-- Settles O36: a return is `returnFrom`, and a return not taken is an advance of PC. -/
theorem returns : Obligations.Returns := by
  refine ⟨fetchesOne_of rfl, fun cc => fetchesOne_of ?_, fun s => (exec_ret s).trans (congrArg _ (returnFrom_eq 10 s)),
    fun cc s => ⟨fun h => ?_, fun h => ?_⟩⟩
  · cases cc <;> rfl
  · rw [exec_retIf, retIf_of_holds h, returnFrom_eq]
  · rw [exec_retIf, retIf_of_not_holds h]
    rfl

end Sys2Proof.Machine

/-! SUPPORT. System instructions, the one fault, and the step after EI or after a fault (45_system.md; R283, R303, R305, R310). -/

namespace Sys2Proof.Machine

/-! ## The event served (R300, R313) -/

theorem served_instruction {s : State} (hreset : s.resetReq = false) (hnmi : s.nmiFF = false) (hint : intAccepted s = false) :
    served s = .instruction := by simp [served, hreset, hnmi, hint]

/-- With no reset and no NMI to serve, an INT is served where it is accepted. -/
theorem served_int_iff {s : State} (hreset : s.resetReq = false) (hnmi : s.nmiFF = false) :
    served s = .int ↔ intAccepted s = true := by simp [served, hreset, hnmi]

/-- EI_FF holds off an INT (R303). -/
theorem intAccepted_of_eiFF {s : State} (h : s.eiFF = true) : intAccepted s = false := by simp [intAccepted, h]

/-- With EI_FF clear, an INT that is pending and enabled is accepted (R303). -/
theorem intAccepted_of_not_eiFF {s : State} (h : s.eiFF = false) : intAccepted s = (s.intFF && s.iff1) := by simp [intAccepted, h]

/-- With no event served and a one-byte instruction at PC, the step reads its octet and runs it, EI_FF cleared (R305, R309). -/
theorem step_of_dispatch_op {s : State} {i : Instr} (hreset : s.resetReq = false) (hnmi : s.nmiFF = false)
    (hint : intAccepted s = false) (hd : dispatch (s.answer s.pc) = .op i) :
    step s = exec i
      { s with eiFF := false, busAnswers := dropAnswer s.busAnswers s.pc, trace := [.read s.pc (s.answer s.pc)] } := by
  rw [step_instruction hreset hnmi hint, instructionStage_startStep, executeOpcode, fetchesOne_of hd]

/-! ## NOP, EI, DI and the sentinel (R280 to R283) -/

/-- Settles O37: each first byte is a row of format OP, and each meaning is its form's. -/
theorem nopEnableDisable : Obligations.NopEnableDisable :=
  ⟨fetchesOne_of rfl, fetchesOne_of rfl, fetchesOne_of rfl, fun s => ⟨exec_nop s, exec_ei s, exec_di s⟩⟩

/-- Settles O38, by the rows of the seven octets and the sentinel's meaning. -/
theorem illegalFaults : Obligations.IllegalFaults :=
  ⟨fun _ h => fetchesOne_of (dispatch_illegal h), exec_illegal⟩

/-! ## The step after EI (R281, R303, R305) -/

/-- An instruction other than EI and DI leaves IFF1 and EI_FF (R33, R37), and none writes what the next step decides by. -/
theorem exec_keeps_enables {i : Instr} {s t : State} (h : exec i s = .next t) (hei : i ≠ .ei) (hdi : i ≠ .di) :
    t.iff1 = s.iff1 ∧ t.eiFF = s.eiFF ∧ t.intFF = s.intFF ∧ t.resetReq = s.resetReq ∧ t.nmiFF = s.nmiFF := by
  rw [← formOf_instr i] at h hei hdi
  have hfei : formOf i ≠ .ei := fun hf => hei (by rw [hf]; rfl)
  have hfdi : formOf i ≠ .di := fun hf => hdi (by rw [hf]; rfl)
  obtain rfl := exec_form_endsIn (.inl h)
  obtain ⟨-, -, hnmi, hint, hreset, -⟩ := run_control (formOf i) s
  obtain ⟨-, -, hiffs, heiFF⟩ := run_rarely_written (formOf i) s
  exact ⟨(hiffs hfei hfdi).1, heiFF hfei, hint, hreset, hnmi⟩

/-- Where EI_FF holds an INT off, the step runs an instruction (R305); one other than EI and DI lets the next step accept the INT. -/
theorem served_after_eiFF {s t : State} {i : Instr} {rest : List Octet} (hreset : s.resetReq = false) (hnmi : s.nmiFF = false)
    (heiFF : s.eiFF = true) (hiff1 : s.iff1 = true) (hdecode : decode (window s) = .ok (i, rest)) (hei : i ≠ .ei) (hdi : i ≠ .di)
    (h : step s = .next t) : t.eiFF = false ∧ t.iff1 = true ∧ (served t = .int ↔ s.intFF = true) := by
  rw [stepRunsDecodedInstruction s i rest hreset hnmi (intAccepted_of_eiFF heiFF) hdecode] at h
  obtain ⟨hiff1', heiFF', hint', hreset', hnmi'⟩ := exec_keeps_enables h hei hdi
  refine ⟨heiFF', hiff1'.trans hiff1, ?_⟩
  rw [served_int_iff (hreset'.trans hreset) (hnmi'.trans hnmi), intAccepted_of_not_eiFF heiFF', hint', hiff1', hiff1, Bool.and_true]

/-- Settles O44: EI leaves EI_FF set with both enables. -/
theorem eiShadowLastsOneInstruction : Obligations.EiShadowLastsOneInstruction := by
  intro s hreset hnmi hint hei
  have hstep := step_of_dispatch_op hreset hnmi hint (i := .ei) (by rw [hei]; rfl)
  exact ⟨_, hstep.trans (exec_ei _), rfl, rfl, rfl, served_instruction hreset hnmi (intAccepted_of_eiFF rfl), rfl,
    fun i rest u => served_after_eiFF hreset hnmi rfl rfl⟩

/-! ## The one fault (R283, R310) -/

/-- An instruction completes, but for the sentinel, which faults where it stands. -/
theorem exec_cases (i : Instr) (s : State) :
    (∃ t, exec i s = .next t) ∨ ∃ op, i = .illegal op ∧ exec i s = .fault (.illegalOpcode op s) := by
  by_cases hf : ∃ op, formOf i = .illegal op
  · obtain ⟨op, hf⟩ := hf
    obtain rfl : i = .illegal op := by rw [← formOf_instr i, hf]; rfl
    exact .inr ⟨op, rfl, exec_illegal op s⟩
  · have h := exec_form (not_exists.1 hf) s
    rw [formOf_instr] at h
    exact .inl ⟨_, h⟩

/-- What a fetch completes to is the table's entry with its operands bound (R93 to R97). -/
theorem completeFetch_instr (op : Octet) (s : State) : ∃ w, (completeFetch op s).1 = (dispatch op).instr w := by
  obtain ⟨i, hd, h⟩ | ⟨f, hd | hd, h⟩ | ⟨f, hd, h⟩ := completeFetch_cases op s <;> rw [hd, h]
  · exact ⟨0, rfl⟩
  · exact ⟨mkWord 0 (s.answer (s.pc + 1)), by simp [Variant.instr]⟩
  · exact ⟨mkWord 0 (s.answer (s.pc + 1)), by simp [Variant.instr]⟩
  · exact ⟨_, rfl⟩

theorem wellFormed_completeFetch (op : Octet) (s : State) : wellFormed (completeFetch op s).1 = true := by
  obtain ⟨w, h⟩ := completeFetch_instr op s
  rw [h]
  exact wellFormed_dispatch op w

/-- Executing from an opcode octet completes, or faults with one of the seven octets after the reads of the fetch alone. -/
theorem executeOpcode_cases (op : Octet) (s : State) :
    (∃ t, executeOpcode op s = .next t) ∨
    ∃ b q tr, illegalByteOk b = true ∧ executeOpcode op s = .fault (.illegalOpcode b { s with busAnswers := q, trace := tr }) := by
  unfold executeOpcode
  obtain h | ⟨b, hi, h⟩ := exec_cases (completeFetch op s).1 (completeFetch op s).2
  · exact .inl h
  · have hb := wellFormed_completeFetch op s
    rw [hi] at hb
    exact .inr ⟨b, _, _, hb, h.trans (by rw [completeFetch_state])⟩

theorem acknowledged_intAck (s : State) : Acknowledged s (intAck { startStep s with iff1 := false, iff2 := false }).2 :=
  ⟨_, _, _, _, intAck_state _⟩

/-- The reads of a fetch leave an accepted interrupt as it is. -/
theorem Acknowledged.withReads {s u : State} (h : Acknowledged s u) (q : List (Word × Octet)) (tr : List BusOp) :
    Acknowledged s { u with busAnswers := q, trace := tr } := by
  obtain ⟨_, a, d, _, rfl⟩ := h
  exact ⟨q, a, d, tr, rfl⟩

/-- An accepted interrupt completes, or in mode 0 faults with one of the seven octets after the acknowledge and the reads (R306). -/
theorem intStage_cases (s : State) :
    (∃ t, intStage (startStep s) = .next t) ∨
    ∃ b u, illegalByteOk b = true ∧ Acknowledged s u ∧ intStage (startStep s) = .fault (.illegalOpcode b u) := by
  unfold intStage
  split
  · obtain ⟨t, h⟩ | ⟨b, q, tr, hb, h⟩ := executeOpcode_cases _ (intAck { startStep s with iff1 := false, iff2 := false }).2
    · exact .inl ⟨_, congrArg (surcharge 2) h⟩
    · exact .inr ⟨b, _, hb, (acknowledged_intAck s).withReads q tr, congrArg (surcharge 2) h⟩
  · exact .inl ⟨_, rfl⟩
  · exact .inl ⟨_, rfl⟩

/-- Settles O60, stage by stage of R300. -/
theorem onlyIllegalOpcodesFault : Obligations.OnlyIllegalOpcodesFault := by
  intro s
  obtain ⟨-, e⟩ | ⟨-, -, e⟩ | ⟨-, -, -, e⟩ | ⟨-, -, -, e⟩ := step_cases s <;> rw [e]
  · exact .inl ⟨_, rfl⟩
  · exact .inl ⟨_, rfl⟩
  · obtain h | ⟨b, u, hb, ⟨q, a, d, tr, rfl⟩, h⟩ := intStage_cases s
    · exact .inl h
    · exact .inr ⟨b, _, h, hb, rfl⟩
  · rw [instructionStage_startStep]
    obtain h | ⟨b, q, tr, hb, h⟩ := executeOpcode_cases _ _
    · exact .inl h
    · exact .inr ⟨b, _, h, hb, rfl⟩

/-! ## The step after a fault (R283, R310) -/

/-- With no event served and one of the seven octets at PC, the step reads it, clears EI_FF and faults. -/
theorem step_of_illegal {s : State} (hreset : s.resetReq = false) (hnmi : s.nmiFF = false) (hint : intAccepted s = false)
    (hop : illegalByteOk (s.answer s.pc) = true) :
    step s = .fault (.illegalOpcode (s.answer s.pc)
      { s with eiFF := false, busAnswers := dropAnswer s.busAnswers s.pc, trace := [.read s.pc (s.answer s.pc)] }) :=
  (step_of_dispatch_op hreset hnmi hint (dispatch_illegal hop)).trans (exec_illegal _ _)

theorem stepOrFault_of_fault {s t : State} {op : Octet} (h : step s = .fault (.illegalOpcode op t)) : stepOrFault s = t := by
  simp [stepOrFault, h]

/-- Settles O45: the state of the fault is the state before with EI_FF clear, so the next step sees the same octet, unless an INT that
EI_FF had held off comes first. -/
theorem illegalStepIsNotSticky : Obligations.IllegalStepIsNotSticky := by
  intro s hreset hnmi hint hop
  have hstep := step_of_illegal hreset hnmi hint hop
  refine ⟨hstep, fun hoff hnone => ?_, fun hon => ?_⟩ <;> rw [stepOrFault_of_fault hstep]
  · rw [hstep, dropAnswer_of_none hnone]
    have hagain := step_of_illegal (s := { s with eiFF := false, trace := [.read s.pc (s.answer s.pc)] }) hreset hnmi
      ((intAccepted_of_not_eiFF rfl).trans hoff) hop
    exact hagain.trans (by rw [dropAnswer_of_none hnone]; rfl)
  · refine (served_int_iff ?_ ?_).2 ((intAccepted_of_not_eiFF rfl).trans hon)
    · exact hreset
    · exact hnmi

end Sys2Proof.Machine

/-! SUPPORT. Asynchronous events (60_exceptions.md): the order of the stages, NMI entry, the maskable interrupt in its three modes, what each
stage puts on the bus, the host's latches (R300 to R314, R321 to R326). -/

namespace Sys2Proof.Machine

/-! ## The event served, stage by stage (R300, R303, R313) -/

theorem intAccepted_iff (s : State) : intAccepted s = true ↔ s.intFF = true ∧ s.iff1 = true ∧ s.eiFF = false := by
  simp [intAccepted, and_assoc]

theorem served_reset_iff (s : State) : served s = .reset ↔ s.resetReq = true := by
  unfold served
  split_ifs <;> simp [*]

theorem served_nmi_iff (s : State) : served s = .nmi ↔ s.resetReq = false ∧ s.nmiFF = true := by
  unfold served
  split_ifs <;> simp [*]

theorem served_int_iff_flags (s : State) : served s = .int ↔
    s.resetReq = false ∧ s.nmiFF = false ∧ s.intFF = true ∧ s.iff1 = true ∧ s.eiFF = false := by
  rw [← intAccepted_iff]
  unfold served
  split_ifs <;> simp [*]

theorem served_instruction_iff (s : State) :
    served s = .instruction ↔ s.resetReq = false ∧ s.nmiFF = false ∧ intAccepted s = false := by
  unfold served
  split_ifs <;> simp [*]

/-! ## Entering a handler (R302, R307, R308) -/

/-- Where the octets of PC lie: the low one at the new SP (R250). -/
theorem peek_enterHandler (d : Word) (n : BitVec 64) (s : State) (b : Word) :
    (enterHandler d n s).peek b = if b = s.sp - 2 then lo s.pc else if b = s.sp - 2 + 1 then hi s.pc else s.peek b :=
  peek_push_low_first s.pc s b

/-- Everything else that entering a handler does. -/
theorem enterHandler_state (d : Word) (n : BitVec 64) (s : State) : enterHandler d n s =
    { s with pc := d, sp := s.sp - 2, mem := (enterHandler d n s).mem, cycles := s.cycles + n,
             trace := s.trace ++ [.write (s.sp - 2) (lo s.pc), .write (s.sp - 2 + 1) (hi s.pc)] } :=
  congrArg (fun u : State => charge n { u with pc := d }) (push_state s.pc s)

/-- Settles O41: the NMI's stage is the entry of a handler with IFF1 and NMI_FF cleared. -/
theorem nmiEntry : Obligations.NmiEntry := fun _ hreset hnmi =>
  ⟨_, step_nmi hreset hnmi, peek_enterHandler _ _ _, enterHandler_state _ _ _⟩

/-- Settles O46: the NMI's entry clears IFF1, so the next step does not accept the INT. -/
theorem nmiComesBeforeInt : Obligations.NmiComesBeforeInt := by
  intro s hreset hnmi hint _
  obtain ⟨t, hstep, -, hframe⟩ := nmiEntry s hreset hnmi
  refine ⟨t, hstep, ?_⟩
  rw [hframe]
  exact ⟨rfl, rfl, hint, rfl, served_instruction hreset rfl (by simp [intAccepted])⟩

/-! ## The maskable interrupt (R304, R306 to R308) -/

/-- The state in which an accepted interrupt is acknowledged (R304): both enables cleared, nothing recorded yet. -/
def ackState (s : State) : State := { startStep s with iff1 := false, iff2 := false }

/-- The acknowledge takes the environment's next octet, where it has supplied one (R64). -/
theorem exists_intAck (s : State) : ∃ v q d, intAck s = (v, { s with ackQueue := q, draws := d, trace := s.trace ++ [.ack v] }) ∧
    ∀ x rest, s.ackQueue = x :: rest → v = x ∧ q = rest ∧ d = s.draws := by
  obtain ⟨v, rest, hq, h⟩ | ⟨hq, h⟩ := intAck_cases s
  · exact ⟨_, _, _, h, by simp [hq]⟩
  · exact ⟨_, _, _, h, by simp [hq]⟩

/-- In mode 0 the octet acknowledged is executed, 2 T-cycles dearer (R306). -/
theorem intStage_im0 {s : State} (h : s.im = .im0) :
    intStage (startStep s) = surcharge 2 (executeOpcode (intAck (ackState s)).1 (intAck (ackState s)).2) := by
  simp [intStage, ackState, h]

/-- In modes 1 and 2 a handler is entered, at an address and a cost by the mode (R307, R308). -/
theorem intStage_vectored {s : State} (h : s.im ≠ .im0) : intStage (startStep s) = .next
    (enterHandler (if s.im = .im1 then 0x0038 else mkWord s.i (intAck (ackState s)).1) (if s.im = .im1 then 13 else 19)
      (intAck (ackState s)).2) := by
  cases him : s.im with
  | im0 => exact absurd him h
  | im1 => simp [intStage, ackState, him, int1Vector]
  | im2 => simp [intStage, ackState, him]

/-- Settles O42: one acknowledge with both enables cleared, then the entry of a handler. -/
theorem vectoredInterruptEntry : Obligations.VectoredInterruptEntry := by
  intro s hreset hnmi hint hiff1 heiFF him
  obtain ⟨v, q, d, hack, hsupplied⟩ := exists_intAck (ackState s)
  have hstep := step_int hreset hnmi ((intAccepted_iff s).2 ⟨hint, hiff1, heiFF⟩)
  rw [intStage_vectored him, hack] at hstep
  exact ⟨_, v, hstep, hsupplied, peek_enterHandler _ _ _, enterHandler_state _ _ _⟩

/-- Settles O43: the acknowledge leaves what the Bus answers at PC + 1 and PC + 2, so the fetch completes as if the octet stood at PC. -/
theorem modeZeroExecutesAcknowledgedOpcode : Obligations.ModeZeroExecutesAcknowledgedOpcode := by
  rintro s v q i rest hreset hnmi hint hiff1 heiFF him hq hdecode u rfl
  obtain ⟨v, q, d, hack, hsupplied⟩ := exists_intAck (ackState s)
  obtain ⟨rfl, rfl, rfl⟩ := hsupplied _ _ hq
  have hfetch := completeFetch_of_decode (u := (intAck (ackState s)).2) hdecode (by rw [hack]; rfl) (by rw [hack]; rfl)
    (by rw [hack]; rfl)
  have hstep := step_int hreset hnmi ((intAccepted_iff s).2 ⟨hint, hiff1, heiFF⟩)
  rw [intStage_im0 him, executeOpcode, congrArg Prod.fst hack, hfetch, hack] at hstep
  rw [hstep]
  exact ⟨fun t ht => congrArg (surcharge 2) ht, fun r hr => congrArg (surcharge 2) hr⟩

/-! ## How many acknowledges a step makes (R64, R304) -/

theorem acknowledges_append (xs ys : List BusOp) : acknowledges (xs ++ ys) = acknowledges xs + acknowledges ys := by
  induction xs with
  | nil => simp [acknowledges]
  | cons o xs ih =>
    cases o with
    | read | write => exact ih
    | ack v =>
      simp only [acknowledges, List.cons_append, ih]
      omega

theorem acknowledges_map_read (g : Word → Octet) (addrs : List Word) :
    acknowledges (addrs.map fun a => .read a (g a)) = 0 := by
  induction addrs with
  | nil => rfl
  | cons _ _ ih => exact ih

theorem acknowledges_map_write (g : Word → Octet) (addrs : List Word) :
    acknowledges (addrs.map fun a => .write a (g a)) = 0 := by
  induction addrs with
  | nil => rfl
  | cons _ _ ih => exact ih

/-- A form records reads and writes only. -/
theorem acknowledges_run (f : Form) (s : State) : acknowledges (f.run s).trace = acknowledges s.trace := by
  obtain ⟨htrace, -⟩ := records_run f s
  rw [htrace, acknowledges_append, acknowledges_append, Form.reads, Form.writes, acknowledges_map_read, acknowledges_map_write,
    Nat.add_zero]

/-- Completing a fetch records reads only. -/
theorem acknowledges_completeFetch (op : Octet) (s : State) :
    acknowledges (completeFetch op s).2.trace = acknowledges s.trace := by
  obtain ⟨i, -, h⟩ | ⟨f, -, h⟩ | ⟨f, -, h⟩ := completeFetch_cases op s <;> rw [h] <;> simp [acknowledges_append, acknowledges]

theorem acknowledges_enterHandler (d : Word) (n : BitVec 64) (s : State) :
    acknowledges (enterHandler d n s).trace = acknowledges s.trace := by simp [acknowledges_append, acknowledges]

theorem acknowledges_intAck (s : State) : acknowledges (intAck s).2.trace = acknowledges s.trace + 1 := by
  simp [acknowledges_append, acknowledges]

/-- Executing from an opcode octet makes no acknowledge. -/
theorem acknowledges_executeOpcode {op : Octet} {s t : State} (h : EndsIn (executeOpcode op s) t) :
    acknowledges t.trace = acknowledges s.trace := by
  obtain ⟨f, rfl⟩ := exec_endsIn h
  rw [acknowledges_run, acknowledges_completeFetch]

/-- An accepted interrupt makes one acknowledge, whatever its mode. -/
theorem acknowledges_intStage {s t : State} (h : EndsIn (intStage (startStep s)) t) : acknowledges t.trace = 1 := by
  have hack := acknowledges_intAck (ackState s)
  by_cases him : s.im = .im0
  · rw [intStage_im0 him] at h
    obtain ⟨u, n, hu, rfl⟩ := surcharge_endsIn h
    exact (acknowledges_executeOpcode hu).trans hack
  · rw [intStage_vectored him] at h
    rw [eq_of_endsIn_next h]
    exact (acknowledges_enterHandler _ _ _).trans hack

/-- A step makes one acknowledge if it serves an INT, and none if not; a step that faults included. -/
theorem acknowledges_step {s t : State} (h : EndsIn (step s) t) : acknowledges t.trace = if served s = .int then 1 else 0 := by
  obtain ⟨hreset, e⟩ | ⟨hreset, hnmi, e⟩ | ⟨hreset, hnmi, hint, e⟩ | ⟨hreset, hnmi, hint, e⟩ := step_cases s <;> rw [e] at h
  · rw [(served_reset_iff s).2 hreset, eq_of_endsIn_next h]
    rfl
  · rw [(served_nmi_iff s).2 ⟨hreset, hnmi⟩, eq_of_endsIn_next h]
    exact acknowledges_enterHandler _ _ _
  · rw [(served_int_iff hreset hnmi).2 hint]
    exact acknowledges_intStage h
  · rw [served_instruction hreset hnmi hint]
    exact acknowledges_executeOpcode h

/-! ## The order of the stages (R300, R309, R313) -/

/-- Three octets are enough for any first byte (R91). -/
theorem exists_decode_window (s : State) : ∃ i rest, decode (window s) = .ok (i, rest) := by
  obtain ⟨i, h⟩ := decode_of_variantLength_le (op := s.answer s.pc) (rest := [s.answer (s.pc + 1), s.answer (s.pc + 1 + 1)])
    (variantLength_le _)
  exact ⟨i, _, h⟩

/-- Settles O47: each stage is taken under its own condition, and what it puts on the bus is what its operations record. -/
theorem stagesHavePriority : Obligations.StagesHavePriority := by
  refine fun s => ⟨served_reset_iff s, served_nmi_iff s, served_int_iff_flags s, fun t ht h => ?_, fun t ht h => ?_,
    fun t ht => acknowledges_step (.inl ht), fun h => ?_⟩
  · rw [step_reset ((served_reset_iff s).1 h)] at ht
    cases ht
    exact ⟨rfl, rfl⟩
  · obtain ⟨hreset, hnmi⟩ := (served_nmi_iff s).1 h
    rw [step_nmi hreset hnmi] at ht
    cases ht
    exact ⟨rfl, rfl⟩
  · obtain ⟨hreset, hnmi, hint⟩ := (served_instruction_iff s).1 h
    obtain ⟨i, rest, hdecode⟩ := exists_decode_window s
    exact ⟨i, rest, hdecode, stepRunsDecodedInstruction s i rest hreset hnmi hint hdecode⟩

/-! ## The host's latches (R321, R322, R325, R326) -/

/-- Settles O48: a high level is a rising edge only where the line was low. -/
theorem hostLatchOperations : Obligations.HostLatchOperations := by
  refine fun s => ⟨rfl, ?_, ?_, rfl, rfl⟩
  · cases hline : s.nmiLine <;> simp [setNmiLine, hline]
  · simp [setNmiLine]

end Sys2Proof.Machine

/-! SUPPORT. Canonical memories as data (20_memory.md section 1, log entry 5): the entries of a canonical list are what its reads give, and
its order is fixed. -/

namespace Sys2Proof.Machine

/-! ## A canonical memory is what it reads as -/

/-- The entries of a canonical list stand in strictly rising order of their addresses. -/
theorem pairwise_of_wf {m : Memory} (h : Memory.wf m = true) : m.Pairwise (InvImage (· < ·) Prod.fst) := by
  induction m with
  | nil => exact .nil
  | cons c m ih =>
    obtain ⟨-, -, hrise, hm⟩ := (wf_cons c.1 c.2 m).1 h
    exact .cons hrise (ih hm)

theorem address_lt_of_mem_of_wf {m : Memory} {c : Host.Cell} (h : Memory.wf m = true) (hc : c ∈ m) : c.1 < 65536 := by
  induction m with
  | nil => cases hc
  | cons d m ih =>
    obtain ⟨hlt, -, -, hm⟩ := (wf_cons d.1 d.2 m).1 h
    rcases List.mem_cons.1 hc with rfl | hc
    · exact hlt
    · exact ih hm hc

/-- A canonical list holds exactly the entries that its reads show to differ from an unlisted address. -/
theorem mem_iff_read {m : Memory} (h : Memory.wf m = true) (a : Nat) (v : Octet) :
    (a, v) ∈ m ↔ v ≠ Memory.unlisted ∧ Memory.read m a = v := by
  induction m with
  | nil => simp [Memory.read, eq_comm]
  | cons d m ih =>
    obtain ⟨b, w⟩ := d
    obtain ⟨-, hw, hrise, hm⟩ := (wf_cons b w m).1 h
    by_cases hab : a = b
    · subst hab
      have hnot : (a, v) ∉ m := fun hmem => Nat.lt_irrefl a (hrise _ hmem)
      simp only [List.mem_cons, Prod.mk.injEq, true_and, hnot, or_false, Memory.read, if_true]
      exact ⟨fun e => ⟨e ▸ hw, e.symm⟩, fun e => e.2.symm⟩
    · simp [Memory.read, hab, ih hm]

/-- The same by the reads at Word addresses (R60), which are all that a canonical list can hold. -/
theorem mem_iff_get {m : Memory} (h : Memory.wf m = true) (c : Host.Cell) :
    c ∈ m ↔ c.2 ≠ Memory.unlisted ∧ ∃ a : Word, a.toNat = c.1 ∧ Memory.get m a = c.2 := by
  constructor
  · intro hc
    obtain ⟨hv, hread⟩ := (mem_iff_read h c.1 c.2).1 hc
    have haddr : (BitVec.ofNat 16 c.1).toNat = c.1 :=
      (BitVec.toNat_ofNat c.1 16).trans (Nat.mod_eq_of_lt (address_lt_of_mem_of_wf h hc))
    exact ⟨hv, BitVec.ofNat 16 c.1, haddr, by rw [Memory.get, haddr, hread]⟩
  · rintro ⟨hv, a, haddr, hget⟩
    exact (mem_iff_read h c.1 c.2).2 ⟨hv, haddr ▸ hget⟩

/-- Settles O11: both lists hold the entries that the common reads show, and strictly rising addresses leave one order for them. -/
theorem canonicalMemoriesAreEqual : Obligations.CanonicalMemoriesAreEqual :=
  fun m k hm hk h => (pairwise_of_wf hm).eq_of_mem_iff (pairwise_of_wf hk) fun c => by
    rw [mem_iff_get hm, mem_iff_get hk]
    simp only [h]

end Sys2Proof.Machine
